-- ==== Sys2Proof/Word.lean ====
section
/-! DEFINITION. The two word types of the core: every value is an unsigned byte or an unsigned 16-bit value
(00_scope.md R7, R9, R10). -/

namespace Sys2Proof

/-- An 8-bit unsigned value: a register, a memory cell, an opcode (10_state.md R31, R43). -/
abbrev Byte := BitVec 8

/-- A 16-bit unsigned value: SP, PC, a register pair, a 16-bit operand (10_state.md R33 to R35). -/
abbrev Word := BitVec 16

end Sys2Proof
end

