-- ==== Sys2Proof/Syntax.lean ====
section
/-! DEFINITION. The instructions of the Intel-Lamp 8080 core: one constructor per mnemonic of `spec/opcode_table.json`
(30_encoding.md R97), with the operand values the engine assembles (R95) as its arguments. The 103 rows named
UNIMPLEMENTED are one constructor that carries the opcode byte. -/

namespace Sys2Proof

/-- The seven 8-bit general registers (10_state.md R31). -/
inductive Reg
  | a | b | c | d | e | h | l
  deriving DecidableEq, Repr

/-- The register pairs and SP, as named by a 2-bit code (30_encoding.md R94). -/
inductive Pair
  | bc | de | hl | sp
  deriving DecidableEq, Repr

/-- The two pairs STAX and LDAX may name (30_encoding.md R94). -/
inductive IndexPair
  | bc | de
  deriving DecidableEq, Repr

/-- An 8-bit operand named by a 3-bit code: a register, or `M`, the memory cell at HL (30_encoding.md R93, R96). -/
inductive Src
  | reg (r : Reg)
  | m
  deriving DecidableEq, Repr

/-- The five flags (10_state.md R36). -/
inductive Flag
  | z | s | p | ac | cy
  deriving DecidableEq, Repr

/-- An instruction with its operands (30_encoding.md R97). -/
inductive Instr
  -- 42_data_move.md R170
  | movBB
  | movBC
  | movBD
  | movBE
  | movBH
  | movBL
  | movBA
  | movCB
  | movCC
  | movCD
  | movCE
  | movCH
  | movCL
  | movCA
  | movDB
  | movDC
  | movDD
  | movDE
  | movDH
  | movDL
  | movDA
  | movEB
  | movEC
  | movED
  | movEE
  | movEH
  | movEL
  | movEA
  | movHB
  | movHC
  | movHD
  | movHE
  | movHH
  | movHL
  | movHA
  | movLB
  | movLC
  | movLD
  | movLE
  | movLH
  | movLL
  | movLA
  | movAB
  | movAC
  | movAD
  | movAE
  | movAH
  | movAL
  | movAA
  -- 42_data_move.md R171
  | movBM
  | movCM
  | movDM
  | movEM
  | movHM
  | movLM
  | movAM
  -- 42_data_move.md R172
  | movMB
  | movMC
  | movMD
  | movME
  | movMH
  | movML
  | movMA
  -- 42_data_move.md R173
  | mviB (d8 : Byte)
  | mviC (d8 : Byte)
  | mviD (d8 : Byte)
  | mviE (d8 : Byte)
  | mviH (d8 : Byte)
  | mviL (d8 : Byte)
  | mviA (d8 : Byte)
  -- 42_data_move.md R174
  | mviM (d8 : Byte)
  -- 43_load_store.md R190
  | lxiB (d16 : Word)
  | lxiD (d16 : Word)
  | lxiH (d16 : Word)
  | lxiSP (d16 : Word)
  -- 43_load_store.md R191
  | staxB
  | staxD
  -- 43_load_store.md R192
  | ldaxB
  | ldaxD
  -- 43_load_store.md R193
  | shld (a16 : Word)
  -- 43_load_store.md R194
  | lhld (a16 : Word)
  -- 43_load_store.md R195
  | sta (a16 : Word)
  -- 43_load_store.md R196
  | lda (a16 : Word)
  -- 44_inc_dec.md R210
  | inrB
  | inrC
  | inrD
  | inrE
  | inrH
  | inrL
  | inrA
  -- 44_inc_dec.md R211
  | inrM
  -- 44_inc_dec.md R212
  | dcrB
  | dcrC
  | dcrD
  | dcrE
  | dcrH
  | dcrL
  | dcrA
  -- 44_inc_dec.md R213
  | dcrM
  -- 44_inc_dec.md R214
  | inxB
  | inxD
  | inxH
  | inxSP
  -- 44_inc_dec.md R215
  | dcxB
  | dcxD
  | dcxH
  | dcxSP
  -- 45_arithmetic.md R230
  | addB
  | addC
  | addD
  | addE
  | addH
  | addL
  | addA
  -- 45_arithmetic.md R231
  | addM
  -- 45_arithmetic.md R232
  | adcB
  | adcC
  | adcD
  | adcE
  | adcH
  | adcL
  | adcA
  -- 45_arithmetic.md R233
  | adcM
  -- 45_arithmetic.md R234
  | subB
  | subC
  | subD
  | subE
  | subH
  | subL
  | subA
  -- 45_arithmetic.md R235
  | subM
  -- 45_arithmetic.md R236
  | sbbB
  | sbbC
  | sbbD
  | sbbE
  | sbbH
  | sbbL
  | sbbA
  -- 45_arithmetic.md R237
  | sbbM
  -- 45_arithmetic.md R238
  | dadB
  | dadD
  | dadH
  | dadSP
  -- 45_arithmetic.md R239
  | daa
  -- 46_rotate.md R260
  | rlc
  -- 46_rotate.md R261
  | rrc
  -- 46_rotate.md R262
  | ral
  -- 46_rotate.md R263
  | rar
  -- 47_complement_carry.md R270
  | cma
  -- 47_complement_carry.md R271
  | stc
  -- 47_complement_carry.md R272
  | cmc
  -- 48_control.md R280
  | nop
  -- 48_control.md R281
  | hlt
  -- 48_control.md R282
  | unimplemented (op : Byte)
  deriving DecidableEq, Repr

end Sys2Proof
end

