-- ==== Sys2Proof/Decode.lean ====
section
/-! DEFINITION. Encoding and decoding (30_encoding.md): the byte helpers, the code tables (R93, R94), one builder per
instruction shape, the decoder from the fields of the opcode byte (R92, R99), the encoder from the opcode table's rows, and
the assembler text (R102). The decoder is total: an unimplemented opcode decodes to `unimplemented`, and a byte list too
short for its instruction is rejected by name. -/

namespace Sys2Proof

/-- `hi:lo = (hi << 8) | lo` (00_scope.md R9). -/
def joinBytes (hi lo : Byte) : Word := hi ++ lo

/-- The high byte `w >> 8` of a 16-bit value. -/
def hiByte (w : Word) : Byte := w.extractLsb' 8 8

/-- The low byte `w & 0xFF` of a 16-bit value. -/
def loByte (w : Word) : Byte := w.extractLsb' 0 8

/-! ### Code tables -/

/-- The operand a 3-bit code names: 110 is `M` (30_encoding.md R93). -/
def Src.ofCode (code : Nat) : Src :=
  match code with
  | 0 => .reg .b
  | 1 => .reg .c
  | 2 => .reg .d
  | 3 => .reg .e
  | 4 => .reg .h
  | 5 => .reg .l
  | 6 => .m
  | _ => .reg .a

/-- The register pair a 2-bit code names (30_encoding.md R94). -/
def Pair.ofCode (code : Nat) : Pair :=
  match code with
  | 0 => .bc
  | 1 => .de
  | 2 => .hl
  | _ => .sp

/-- The 3-bit code of a register, as a byte (30_encoding.md R93). -/
def Reg.code (r : Reg) : Byte :=
  match r with
  | .b => 0b000#8
  | .c => 0b001#8
  | .d => 0b010#8
  | .e => 0b011#8
  | .h => 0b100#8
  | .l => 0b101#8
  | .a => 0b111#8

/-- The 3-bit code of an 8-bit operand, as a byte: `M` is 110 (30_encoding.md R93). -/
def Src.code (x : Src) : Byte :=
  match x with
  | .reg r => r.code
  | .m => 0b110#8

/-- The 2-bit code of a register pair, as a byte (30_encoding.md R94). -/
def Pair.code (p : Pair) : Byte :=
  match p with
  | .bc => 0b00#8
  | .de => 0b01#8
  | .hl => 0b10#8
  | .sp => 0b11#8

/-- STAX and LDAX's pair as a register pair (30_encoding.md R94). -/
def IndexPair.pair (p : IndexPair) : Pair :=
  match p with
  | .bc => .bc
  | .de => .de

/-! ### One builder per instruction shape -/

/-- `MOV rd,rs` (42_data_move.md R170). -/
def Instr.movReg (rd rs : Reg) : Instr :=
  match rd, rs with
  | .b, .b => .movBB
  | .b, .c => .movBC
  | .b, .d => .movBD
  | .b, .e => .movBE
  | .b, .h => .movBH
  | .b, .l => .movBL
  | .b, .a => .movBA
  | .c, .b => .movCB
  | .c, .c => .movCC
  | .c, .d => .movCD
  | .c, .e => .movCE
  | .c, .h => .movCH
  | .c, .l => .movCL
  | .c, .a => .movCA
  | .d, .b => .movDB
  | .d, .c => .movDC
  | .d, .d => .movDD
  | .d, .e => .movDE
  | .d, .h => .movDH
  | .d, .l => .movDL
  | .d, .a => .movDA
  | .e, .b => .movEB
  | .e, .c => .movEC
  | .e, .d => .movED
  | .e, .e => .movEE
  | .e, .h => .movEH
  | .e, .l => .movEL
  | .e, .a => .movEA
  | .h, .b => .movHB
  | .h, .c => .movHC
  | .h, .d => .movHD
  | .h, .e => .movHE
  | .h, .h => .movHH
  | .h, .l => .movHL
  | .h, .a => .movHA
  | .l, .b => .movLB
  | .l, .c => .movLC
  | .l, .d => .movLD
  | .l, .e => .movLE
  | .l, .h => .movLH
  | .l, .l => .movLL
  | .l, .a => .movLA
  | .a, .b => .movAB
  | .a, .c => .movAC
  | .a, .d => .movAD
  | .a, .e => .movAE
  | .a, .h => .movAH
  | .a, .l => .movAL
  | .a, .a => .movAA

/-- `MOV rd,M` (42_data_move.md R171). -/
def Instr.movLoad (rd : Reg) : Instr :=
  match rd with
  | .b => .movBM
  | .c => .movCM
  | .d => .movDM
  | .e => .movEM
  | .h => .movHM
  | .l => .movLM
  | .a => .movAM

/-- `MOV M,rs` (42_data_move.md R172). -/
def Instr.movStore (rs : Reg) : Instr :=
  match rs with
  | .b => .movMB
  | .c => .movMC
  | .d => .movMD
  | .e => .movME
  | .h => .movMH
  | .l => .movML
  | .a => .movMA

/-- `MVI x,d8` (42_data_move.md R173, R174). -/
def Instr.mvi (x : Src) (d8 : Byte) : Instr :=
  match x with
  | .reg .b => .mviB d8
  | .reg .c => .mviC d8
  | .reg .d => .mviD d8
  | .reg .e => .mviE d8
  | .reg .h => .mviH d8
  | .reg .l => .mviL d8
  | .reg .a => .mviA d8
  | .m => .mviM d8

/-- `LXI p,d16` (43_load_store.md R190). -/
def Instr.lxi (p : Pair) (d16 : Word) : Instr :=
  match p with
  | .bc => .lxiB d16
  | .de => .lxiD d16
  | .hl => .lxiH d16
  | .sp => .lxiSP d16

/-- `STAX p` (43_load_store.md R191). -/
def Instr.stax (p : IndexPair) : Instr :=
  match p with
  | .bc => .staxB
  | .de => .staxD

/-- `LDAX p` (43_load_store.md R192). -/
def Instr.ldax (p : IndexPair) : Instr :=
  match p with
  | .bc => .ldaxB
  | .de => .ldaxD

/-- `INR x` (44_inc_dec.md R210, R211). -/
def Instr.inr (x : Src) : Instr :=
  match x with
  | .reg .b => .inrB
  | .reg .c => .inrC
  | .reg .d => .inrD
  | .reg .e => .inrE
  | .reg .h => .inrH
  | .reg .l => .inrL
  | .reg .a => .inrA
  | .m => .inrM

/-- `DCR x` (44_inc_dec.md R212, R213). -/
def Instr.dcr (x : Src) : Instr :=
  match x with
  | .reg .b => .dcrB
  | .reg .c => .dcrC
  | .reg .d => .dcrD
  | .reg .e => .dcrE
  | .reg .h => .dcrH
  | .reg .l => .dcrL
  | .reg .a => .dcrA
  | .m => .dcrM

/-- `ADD x` (45_arithmetic.md R230, R231). -/
def Instr.add (x : Src) : Instr :=
  match x with
  | .reg .b => .addB
  | .reg .c => .addC
  | .reg .d => .addD
  | .reg .e => .addE
  | .reg .h => .addH
  | .reg .l => .addL
  | .reg .a => .addA
  | .m => .addM

/-- `ADC x` (45_arithmetic.md R232, R233). -/
def Instr.adc (x : Src) : Instr :=
  match x with
  | .reg .b => .adcB
  | .reg .c => .adcC
  | .reg .d => .adcD
  | .reg .e => .adcE
  | .reg .h => .adcH
  | .reg .l => .adcL
  | .reg .a => .adcA
  | .m => .adcM

/-- `SUB x` (45_arithmetic.md R234, R235). -/
def Instr.sub (x : Src) : Instr :=
  match x with
  | .reg .b => .subB
  | .reg .c => .subC
  | .reg .d => .subD
  | .reg .e => .subE
  | .reg .h => .subH
  | .reg .l => .subL
  | .reg .a => .subA
  | .m => .subM

/-- `SBB x` (45_arithmetic.md R236, R237). -/
def Instr.sbb (x : Src) : Instr :=
  match x with
  | .reg .b => .sbbB
  | .reg .c => .sbbC
  | .reg .d => .sbbD
  | .reg .e => .sbbE
  | .reg .h => .sbbH
  | .reg .l => .sbbL
  | .reg .a => .sbbA
  | .m => .sbbM

/-- `INX p` (44_inc_dec.md R214). -/
def Instr.inx (p : Pair) : Instr :=
  match p with
  | .bc => .inxB
  | .de => .inxD
  | .hl => .inxH
  | .sp => .inxSP

/-- `DCX p` (44_inc_dec.md R215). -/
def Instr.dcx (p : Pair) : Instr :=
  match p with
  | .bc => .dcxB
  | .de => .dcxD
  | .hl => .dcxH
  | .sp => .dcxSP

/-- `DAD p` (45_arithmetic.md R238). -/
def Instr.dad (p : Pair) : Instr :=
  match p with
  | .bc => .dadB
  | .de => .dadD
  | .hl => .dadH
  | .sp => .dadSP

/-- `MOV x,y` by its two operand codes; the code pair 110, 110 is HLT, and there is no MOV M,M (30_encoding.md R101). -/
def Instr.mov (x y : Src) : Instr :=
  match x, y with
  | .reg rd, .reg rs => .movReg rd rs
  | .reg rd, .m => .movLoad rd
  | .m, .reg rs => .movStore rs
  | .m, .m => .hlt

/-! ### The decoder -/

/-- The entry of the opcode table for one opcode byte: the instruction of format F0, F1 or F2 once its 0, 1 or 2 operand
bytes are known (30_encoding.md R91, R98). -/
inductive OpcodeEntry
  | f0 (i : Instr)
  | f1 (k : Byte → Instr)
  | f2 (k : Word → Instr)

/-- The operand length of an entry (30_encoding.md R90, R91). -/
def OpcodeEntry.operandLength (t : OpcodeEntry) : Nat :=
  match t with
  | .f0 _ => 0
  | .f1 _ => 1
  | .f2 _ => 2

/-- Group 00 with `sss = 010`: the loads and stores through a pair or a 16-bit address, by `ddd` (30_encoding.md R99). -/
def decodeLoadStore (ddd : Nat) : OpcodeEntry :=
  match ddd with
  | 0 => .f0 (.stax .bc)
  | 1 => .f0 (.ldax .bc)
  | 2 => .f0 (.stax .de)
  | 3 => .f0 (.ldax .de)
  | 4 => .f2 .shld
  | 5 => .f2 .lhld
  | 6 => .f2 .sta
  | _ => .f2 .lda

/-- Group 00 with `sss = 111`: the operations on A and Carry, by `ddd` (30_encoding.md R99). -/
def decodeAccumulator (ddd : Nat) : Instr :=
  match ddd with
  | 0 => .rlc
  | 1 => .rrc
  | 2 => .ral
  | 3 => .rar
  | 4 => .daa
  | 5 => .cma
  | 6 => .stc
  | _ => .cmc

/-- Group 00, by `sss` (30_encoding.md R97, R99). -/
def decodeGroup0 (op : Byte) (ddd sss rp : Nat) (q : Bool) : OpcodeEntry :=
  match sss with
  | 0 => .f0 (if op = 0x00#8 then .nop else .unimplemented op)
  | 1 => if q then .f0 (.dad (Pair.ofCode rp)) else .f2 (.lxi (Pair.ofCode rp))
  | 2 => decodeLoadStore ddd
  | 3 => .f0 (if q then .dcx (Pair.ofCode rp) else .inx (Pair.ofCode rp))
  | 4 => .f0 (.inr (Src.ofCode ddd))
  | 5 => .f0 (.dcr (Src.ofCode ddd))
  | 6 => .f1 (.mvi (Src.ofCode ddd))
  | _ => .f0 (decodeAccumulator ddd)

/-- Group 10, the accumulator arithmetic, by `ddd` (30_encoding.md R97, R99). -/
def decodeGroup2 (op : Byte) (ddd sss : Nat) : Instr :=
  match ddd with
  | 0 => .add (Src.ofCode sss)
  | 1 => .adc (Src.ofCode sss)
  | 2 => .sub (Src.ofCode sss)
  | 3 => .sbb (Src.ofCode sss)
  | _ => .unimplemented op

/-- The decode function: total on the 256 opcode bytes (30_encoding.md R98, R99). -/
def decodeOpcode (op : Byte) : OpcodeEntry :=
  let g := (op.extractLsb' 6 2).toNat
  let ddd := (op.extractLsb' 3 3).toNat
  let sss := (op.extractLsb' 0 3).toNat
  let rp := (op.extractLsb' 4 2).toNat
  let q := op.getLsbD 3
  if op = 0x76#8 then .f0 .hlt
  else match g with
    | 0 => decodeGroup0 op ddd sss rp q
    | 1 => .f0 (.mov (Src.ofCode ddd) (Src.ofCode sss))
    | 2 => .f0 (decodeGroup2 op ddd sss)
    | _ => .f0 (.unimplemented op)

/-- Why a byte list holds no whole instruction. -/
inductive DecodeError
  | noOpcode
  | missingOperand (op : Byte)
  deriving DecidableEq, Repr

/-- The instruction at the head of a byte list in program order, and the bytes after it: the first operand byte is the low
byte of a 16-bit operand (20_memory.md R65, R66; 30_encoding.md R95). -/
def decode (bytes : List Byte) : Except DecodeError (Instr × List Byte) :=
  match bytes with
  | [] => .error .noOpcode
  | op :: rest =>
    match decodeOpcode op, rest with
    | .f0 i, rest => .ok (i, rest)
    | .f1 k, b1 :: rest => .ok (k b1, rest)
    | .f2 k, b1 :: b2 :: rest => .ok (k (joinBytes b2 b1), rest)
    | .f1 _, [] => .error (.missingOperand op)
    | .f2 _, [] => .error (.missingOperand op)
    | .f2 _, [_] => .error (.missingOperand op)

/-- The bytes of an instruction word that `spec/opcode_table.json` numbers from bit 0 of the first byte: the bits from `nbits`
on are 0, and three bytes are laid out, the longest instruction (30_encoding.md R90). -/
def tableBytes (nbits w : Nat) : List Byte :=
  let v := w % 2 ^ nbits
  [BitVec.ofNat 8 v, BitVec.ofNat 8 (v / 256), BitVec.ofNat 8 (v / 65536)]

/-- The instruction the decoder reads from a table word. -/
def decodeTableWord (nbits w : Nat) : Option Instr :=
  match decode (tableBytes nbits w) with
  | .ok (i, _) => some i
  | .error _ => none

/-! ### The encoder -/

/-- The bytes of an instruction in program order: its row's opcode byte, then the operand, low byte first
(30_encoding.md R91, R95, R97). -/
def encode (i : Instr) : List Byte :=
  match i with
  | .movBB => [0x40#8]
  | .movBC => [0x41#8]
  | .movBD => [0x42#8]
  | .movBE => [0x43#8]
  | .movBH => [0x44#8]
  | .movBL => [0x45#8]
  | .movBA => [0x47#8]
  | .movCB => [0x48#8]
  | .movCC => [0x49#8]
  | .movCD => [0x4A#8]
  | .movCE => [0x4B#8]
  | .movCH => [0x4C#8]
  | .movCL => [0x4D#8]
  | .movCA => [0x4F#8]
  | .movDB => [0x50#8]
  | .movDC => [0x51#8]
  | .movDD => [0x52#8]
  | .movDE => [0x53#8]
  | .movDH => [0x54#8]
  | .movDL => [0x55#8]
  | .movDA => [0x57#8]
  | .movEB => [0x58#8]
  | .movEC => [0x59#8]
  | .movED => [0x5A#8]
  | .movEE => [0x5B#8]
  | .movEH => [0x5C#8]
  | .movEL => [0x5D#8]
  | .movEA => [0x5F#8]
  | .movHB => [0x60#8]
  | .movHC => [0x61#8]
  | .movHD => [0x62#8]
  | .movHE => [0x63#8]
  | .movHH => [0x64#8]
  | .movHL => [0x65#8]
  | .movHA => [0x67#8]
  | .movLB => [0x68#8]
  | .movLC => [0x69#8]
  | .movLD => [0x6A#8]
  | .movLE => [0x6B#8]
  | .movLH => [0x6C#8]
  | .movLL => [0x6D#8]
  | .movLA => [0x6F#8]
  | .movAB => [0x78#8]
  | .movAC => [0x79#8]
  | .movAD => [0x7A#8]
  | .movAE => [0x7B#8]
  | .movAH => [0x7C#8]
  | .movAL => [0x7D#8]
  | .movAA => [0x7F#8]
  | .movBM => [0x46#8]
  | .movCM => [0x4E#8]
  | .movDM => [0x56#8]
  | .movEM => [0x5E#8]
  | .movHM => [0x66#8]
  | .movLM => [0x6E#8]
  | .movAM => [0x7E#8]
  | .movMB => [0x70#8]
  | .movMC => [0x71#8]
  | .movMD => [0x72#8]
  | .movME => [0x73#8]
  | .movMH => [0x74#8]
  | .movML => [0x75#8]
  | .movMA => [0x77#8]
  | .mviB d8 => [0x06#8, d8]
  | .mviC d8 => [0x0E#8, d8]
  | .mviD d8 => [0x16#8, d8]
  | .mviE d8 => [0x1E#8, d8]
  | .mviH d8 => [0x26#8, d8]
  | .mviL d8 => [0x2E#8, d8]
  | .mviA d8 => [0x3E#8, d8]
  | .mviM d8 => [0x36#8, d8]
  | .lxiB d16 => [0x01#8, loByte d16, hiByte d16]
  | .lxiD d16 => [0x11#8, loByte d16, hiByte d16]
  | .lxiH d16 => [0x21#8, loByte d16, hiByte d16]
  | .lxiSP d16 => [0x31#8, loByte d16, hiByte d16]
  | .staxB => [0x02#8]
  | .staxD => [0x12#8]
  | .ldaxB => [0x0A#8]
  | .ldaxD => [0x1A#8]
  | .shld a16 => [0x22#8, loByte a16, hiByte a16]
  | .lhld a16 => [0x2A#8, loByte a16, hiByte a16]
  | .sta a16 => [0x32#8, loByte a16, hiByte a16]
  | .lda a16 => [0x3A#8, loByte a16, hiByte a16]
  | .inrB => [0x04#8]
  | .inrC => [0x0C#8]
  | .inrD => [0x14#8]
  | .inrE => [0x1C#8]
  | .inrH => [0x24#8]
  | .inrL => [0x2C#8]
  | .inrA => [0x3C#8]
  | .inrM => [0x34#8]
  | .dcrB => [0x05#8]
  | .dcrC => [0x0D#8]
  | .dcrD => [0x15#8]
  | .dcrE => [0x1D#8]
  | .dcrH => [0x25#8]
  | .dcrL => [0x2D#8]
  | .dcrA => [0x3D#8]
  | .dcrM => [0x35#8]
  | .inxB => [0x03#8]
  | .inxD => [0x13#8]
  | .inxH => [0x23#8]
  | .inxSP => [0x33#8]
  | .dcxB => [0x0B#8]
  | .dcxD => [0x1B#8]
  | .dcxH => [0x2B#8]
  | .dcxSP => [0x3B#8]
  | .addB => [0x80#8]
  | .addC => [0x81#8]
  | .addD => [0x82#8]
  | .addE => [0x83#8]
  | .addH => [0x84#8]
  | .addL => [0x85#8]
  | .addA => [0x87#8]
  | .addM => [0x86#8]
  | .adcB => [0x88#8]
  | .adcC => [0x89#8]
  | .adcD => [0x8A#8]
  | .adcE => [0x8B#8]
  | .adcH => [0x8C#8]
  | .adcL => [0x8D#8]
  | .adcA => [0x8F#8]
  | .adcM => [0x8E#8]
  | .subB => [0x90#8]
  | .subC => [0x91#8]
  | .subD => [0x92#8]
  | .subE => [0x93#8]
  | .subH => [0x94#8]
  | .subL => [0x95#8]
  | .subA => [0x97#8]
  | .subM => [0x96#8]
  | .sbbB => [0x98#8]
  | .sbbC => [0x99#8]
  | .sbbD => [0x9A#8]
  | .sbbE => [0x9B#8]
  | .sbbH => [0x9C#8]
  | .sbbL => [0x9D#8]
  | .sbbA => [0x9F#8]
  | .sbbM => [0x9E#8]
  | .dadB => [0x09#8]
  | .dadD => [0x19#8]
  | .dadH => [0x29#8]
  | .dadSP => [0x39#8]
  | .daa => [0x27#8]
  | .rlc => [0x07#8]
  | .rrc => [0x0F#8]
  | .ral => [0x17#8]
  | .rar => [0x1F#8]
  | .cma => [0x2F#8]
  | .stc => [0x37#8]
  | .cmc => [0x3F#8]
  | .nop => [0x00#8]
  | .hlt => [0x76#8]
  | .unimplemented op => [op]

/-! ### Assembler text -/

/-- `0x` and `digits` upper-case hexadecimal digits of `n`. -/
def hexText (digits n : Nat) : String :=
  "0x" ++ String.ofList ((List.range digits).reverse.map
    (fun k => ("0123456789ABCDEF".toList).getD (n / 16 ^ k % 16) '0'))

/-- The assembler text of an instruction, destination first (30_encoding.md R102). An unimplemented opcode has no mnemonic
(R103): its text is this model's own `DB` and the byte (log entry 10). -/
def Instr.asm (i : Instr) : String :=
  match i with
  | .movBB => "MOV B,B"
  | .movBC => "MOV B,C"
  | .movBD => "MOV B,D"
  | .movBE => "MOV B,E"
  | .movBH => "MOV B,H"
  | .movBL => "MOV B,L"
  | .movBA => "MOV B,A"
  | .movCB => "MOV C,B"
  | .movCC => "MOV C,C"
  | .movCD => "MOV C,D"
  | .movCE => "MOV C,E"
  | .movCH => "MOV C,H"
  | .movCL => "MOV C,L"
  | .movCA => "MOV C,A"
  | .movDB => "MOV D,B"
  | .movDC => "MOV D,C"
  | .movDD => "MOV D,D"
  | .movDE => "MOV D,E"
  | .movDH => "MOV D,H"
  | .movDL => "MOV D,L"
  | .movDA => "MOV D,A"
  | .movEB => "MOV E,B"
  | .movEC => "MOV E,C"
  | .movED => "MOV E,D"
  | .movEE => "MOV E,E"
  | .movEH => "MOV E,H"
  | .movEL => "MOV E,L"
  | .movEA => "MOV E,A"
  | .movHB => "MOV H,B"
  | .movHC => "MOV H,C"
  | .movHD => "MOV H,D"
  | .movHE => "MOV H,E"
  | .movHH => "MOV H,H"
  | .movHL => "MOV H,L"
  | .movHA => "MOV H,A"
  | .movLB => "MOV L,B"
  | .movLC => "MOV L,C"
  | .movLD => "MOV L,D"
  | .movLE => "MOV L,E"
  | .movLH => "MOV L,H"
  | .movLL => "MOV L,L"
  | .movLA => "MOV L,A"
  | .movAB => "MOV A,B"
  | .movAC => "MOV A,C"
  | .movAD => "MOV A,D"
  | .movAE => "MOV A,E"
  | .movAH => "MOV A,H"
  | .movAL => "MOV A,L"
  | .movAA => "MOV A,A"
  | .movBM => "MOV B,M"
  | .movCM => "MOV C,M"
  | .movDM => "MOV D,M"
  | .movEM => "MOV E,M"
  | .movHM => "MOV H,M"
  | .movLM => "MOV L,M"
  | .movAM => "MOV A,M"
  | .movMB => "MOV M,B"
  | .movMC => "MOV M,C"
  | .movMD => "MOV M,D"
  | .movME => "MOV M,E"
  | .movMH => "MOV M,H"
  | .movML => "MOV M,L"
  | .movMA => "MOV M,A"
  | .mviB d8 => "MVI B," ++ hexText 2 d8.toNat
  | .mviC d8 => "MVI C," ++ hexText 2 d8.toNat
  | .mviD d8 => "MVI D," ++ hexText 2 d8.toNat
  | .mviE d8 => "MVI E," ++ hexText 2 d8.toNat
  | .mviH d8 => "MVI H," ++ hexText 2 d8.toNat
  | .mviL d8 => "MVI L," ++ hexText 2 d8.toNat
  | .mviA d8 => "MVI A," ++ hexText 2 d8.toNat
  | .mviM d8 => "MVI M," ++ hexText 2 d8.toNat
  | .lxiB d16 => "LXI B," ++ hexText 4 d16.toNat
  | .lxiD d16 => "LXI D," ++ hexText 4 d16.toNat
  | .lxiH d16 => "LXI H," ++ hexText 4 d16.toNat
  | .lxiSP d16 => "LXI SP," ++ hexText 4 d16.toNat
  | .staxB => "STAX B"
  | .staxD => "STAX D"
  | .ldaxB => "LDAX B"
  | .ldaxD => "LDAX D"
  | .shld a16 => "SHLD " ++ hexText 4 a16.toNat
  | .lhld a16 => "LHLD " ++ hexText 4 a16.toNat
  | .sta a16 => "STA " ++ hexText 4 a16.toNat
  | .lda a16 => "LDA " ++ hexText 4 a16.toNat
  | .inrB => "INR B"
  | .inrC => "INR C"
  | .inrD => "INR D"
  | .inrE => "INR E"
  | .inrH => "INR H"
  | .inrL => "INR L"
  | .inrA => "INR A"
  | .inrM => "INR M"
  | .dcrB => "DCR B"
  | .dcrC => "DCR C"
  | .dcrD => "DCR D"
  | .dcrE => "DCR E"
  | .dcrH => "DCR H"
  | .dcrL => "DCR L"
  | .dcrA => "DCR A"
  | .dcrM => "DCR M"
  | .inxB => "INX B"
  | .inxD => "INX D"
  | .inxH => "INX H"
  | .inxSP => "INX SP"
  | .dcxB => "DCX B"
  | .dcxD => "DCX D"
  | .dcxH => "DCX H"
  | .dcxSP => "DCX SP"
  | .addB => "ADD B"
  | .addC => "ADD C"
  | .addD => "ADD D"
  | .addE => "ADD E"
  | .addH => "ADD H"
  | .addL => "ADD L"
  | .addA => "ADD A"
  | .addM => "ADD M"
  | .adcB => "ADC B"
  | .adcC => "ADC C"
  | .adcD => "ADC D"
  | .adcE => "ADC E"
  | .adcH => "ADC H"
  | .adcL => "ADC L"
  | .adcA => "ADC A"
  | .adcM => "ADC M"
  | .subB => "SUB B"
  | .subC => "SUB C"
  | .subD => "SUB D"
  | .subE => "SUB E"
  | .subH => "SUB H"
  | .subL => "SUB L"
  | .subA => "SUB A"
  | .subM => "SUB M"
  | .sbbB => "SBB B"
  | .sbbC => "SBB C"
  | .sbbD => "SBB D"
  | .sbbE => "SBB E"
  | .sbbH => "SBB H"
  | .sbbL => "SBB L"
  | .sbbA => "SBB A"
  | .sbbM => "SBB M"
  | .dadB => "DAD B"
  | .dadD => "DAD D"
  | .dadH => "DAD H"
  | .dadSP => "DAD SP"
  | .daa => "DAA"
  | .rlc => "RLC"
  | .rrc => "RRC"
  | .ral => "RAL"
  | .rar => "RAR"
  | .cma => "CMA"
  | .stc => "STC"
  | .cmc => "CMC"
  | .nop => "NOP"
  | .hlt => "HLT"
  | .unimplemented op => "DB " ++ hexText 2 op.toNat

end Sys2Proof
end

