-- ==== Sys2Proof/Config.lean ====
section
/-! DEFINITION. What the spec leaves open to a parameter (00_scope.md R8) and the free values. A free value is an opaque
constant: nothing in Lean can evaluate it, so a claim holds whatever it is. -/

namespace Sys2Proof

/-- `SUB_AC_RULE` (00_scope.md R8; 40_flag_policy.md R124, R125): how AuxiliaryCarry is set by SUB, SBB and DCR. -/
inductive SubAcRule
  | complementAdd
  | borrow
  deriving DecidableEq, Repr

/-- `LOAD_LIMIT` (00_scope.md R8; 70_reset_and_hazards.md R342): the default 0xFFFF, or 0x10000. -/
inductive LoadLimit
  | ffff
  | addressSpace
  deriving DecidableEq, Repr

/-- `INIT_REGS` (00_scope.md R8; 10_state.md R44): the values of the registers, SP and the flags at session creation. -/
structure InitRegs where
  a : Byte
  b : Byte
  c : Byte
  d : Byte
  e : Byte
  h : Byte
  l : Byte
  sp : Word
  z : Bool
  s : Bool
  p : Bool
  ac : Bool
  cy : Bool
  deriving DecidableEq, Repr

namespace Config

/-- `PC_AFTER_TOP_HLT` (00_scope.md R8; 41_engine_loop.md R149): PC after a HLT at 0xFFFF, any 16-bit value. Applied to the
state's counter of draws. FREE VALUE (log entry 4). -/
opaque pcAfterTopHlt : Nat → Word

/-- The part of `EXIT_FAILURE_CODE` that is free (60_exceptions.md R316). FREE VALUE (log entry 6). -/
opaque exitFailureOffset : Nat

/-- `EXIT_FAILURE_CODE` (00_scope.md R8): any nonzero value. -/
def exitFailureCode : Nat := exitFailureOffset + 1

/-- The bound of `load` (70_reset_and_hazards.md R342). -/
def loadBound (limit : LoadLimit) : Nat :=
  match limit with
  | .ffff => 0xFFFF
  | .addressSpace => 0x10000

/-- The greatest address (20_memory.md R60). -/
def maxAddress : Nat := 0xFFFF

/-- What a memory cell nothing has written holds: "initialized to zero" (10_state.md R43, R44). -/
def blankByte : Byte := 0x00#8

/-- The `INIT_REGS` of `State.reset`: all zero. DESIGN CHOICE, unsafe: the spec leaves every one open (log entry 1). -/
def zeroInit : InitRegs where
  a := 0x00#8
  b := 0x00#8
  c := 0x00#8
  d := 0x00#8
  e := 0x00#8
  h := 0x00#8
  l := 0x00#8
  sp := 0x0000#16
  z := false
  s := false
  p := false
  ac := false
  cy := false

end Config

end Sys2Proof
end

