-- ==== Sys2Proof/Machine/State.lean ====
section
/-! DEFINITION. The state of one session (10_state.md R30), the reasons a step can stop, and the state after session
creation (R44). -/

namespace Sys2Proof.Machine

/-- Memory: the cells that do not hold what an unlisted address reads as (10_state.md R43), addresses strictly rising. -/
abbrev Memory := List Host.Cell

/-- The FlagSet: five independent bits (10_state.md R36). -/
structure Flags where
  z : Bool
  s : Bool
  p : Bool
  ac : Bool
  cy : Bool
  deriving DecidableEq, Repr

/-- Why the engine halted, with the fault record (10_state.md R39, R40). -/
inductive HaltReason
  | hlt
  | memoryFault (addr : Nat)
  | unimplementedOpcode (pc : Word) (op : Byte)
  deriving DecidableEq, Repr

/-- The engine state between steps (10_state.md R39). -/
inductive RunState
  | fetching
  | halted (reason : HaltReason)
  deriving DecidableEq, Repr

/-- The state of one session (10_state.md R30). The last two fields are not the spec's state: the session's `SUB_AC_RULE`
parameter, which no step writes (log entry 3), and the model's own counter of free values drawn (log entry 4). -/
structure State where
  a : Byte
  b : Byte
  c : Byte
  d : Byte
  e : Byte
  h : Byte
  l : Byte
  sp : Word
  pc : Word
  flags : Flags
  mem : Memory
  run : RunState
  subAcRule : SubAcRule
  draws : Nat
  deriving DecidableEq, Repr

/-- Why a step stops without a next state. -/
inductive Fault
  /-- Raised by `step`, never by an instruction: the engine is Halted, and "in `Halted(reason)` the engine has no step"
  (41_engine_loop.md R141). Safe: the machine is stuck there in the spec too. -/
  | engineHalted (reason : HaltReason)
  deriving DecidableEq, Repr

/-- Why an instruction has no meaning. -/
inductive Refusal
  /-- Raised by `exec` for an instruction that is not modelled: none is left. Safe: nothing is claimed of it. -/
  | notModelled (mnemonic : String)
  deriving DecidableEq, Repr

/-- What a step or an instruction answers. -/
abbrev Outcome := Host.Outcome State Fault Refusal

/-- A session just created: memory zero, the registers, SP and flags as `INIT_REGS`, the engine Fetching
(10_state.md R44; 70_reset_and_hazards.md R340). PC has no value before `load` that any rule reads: 0x0000 here
(log entry 2). -/
def State.create (init : InitRegs) (rule : SubAcRule) : State where
  a := init.a
  b := init.b
  c := init.c
  d := init.d
  e := init.e
  h := init.h
  l := init.l
  sp := init.sp
  pc := 0x0000#16
  flags := { z := init.z, s := init.s, p := init.p, ac := init.ac, cy := init.cy }
  mem := []
  run := .fetching
  subAcRule := rule
  draws := 0

/-- The machine right after reset: the session created with every register, SP and flag zero (log entry 1) and the
default `SUB_AC_RULE`, `complement_add` (00_scope.md R8). -/
def State.reset : State := State.create Config.zeroInit .complementAdd

end Sys2Proof.Machine
end

