-- ==== Sys2Proof/Machine/Ops.lean ====
section
/-! DEFINITION. The operations the meanings share: the memory port (20_memory.md), the register file (10_state.md R31 to R34),
raising a fault (41_engine_loop.md R150), the PC advance with its overflow (R147, R148), the end of an instruction, and
HLT (R149). -/

namespace Sys2Proof.Machine

/-! ### Memory -/

/-- The content of a cell; an address not listed holds `Config.blankByte` (10_state.md R43). -/
def Memory.get (m : Memory) (addr : Nat) : Byte :=
  match m with
  | [] => Config.blankByte
  | cell :: rest => if cell.1 = addr then cell.2 else Memory.get rest addr

/-- Put a cell at its place in the rising order, replacing one at the same address. -/
def Memory.insert (m : Memory) (addr : Nat) (v : Byte) : Memory :=
  match m with
  | [] => [(addr, v)]
  | cell :: rest =>
    if addr < cell.1 then (addr, v) :: cell :: rest
    else if addr = cell.1 then (addr, v) :: rest
    else cell :: Memory.insert rest addr v

/-- Write one cell: `mem[addr] <- v`. A cell that would hold what an unlisted address reads as is not listed. -/
def Memory.set (m : Memory) (addr : Nat) (v : Byte) : Memory :=
  if v = Config.blankByte then m.filter (fun cell => cell.1 != addr) else Memory.insert m addr v

/-- The canonical form: addresses strictly rising and inside the address space, no cell that reads as an unlisted one. -/
abbrev Memory.wf (m : Memory) : Prop :=
  m.Pairwise (fun x y => x.1 < y.1) ∧ ∀ cell ∈ m, cell.1 ≤ Config.maxAddress ∧ cell.2 ≠ Config.blankByte

/-- Replace the memory. -/
def setMem (m : Memory) (s : State) : State := { s with mem := m }

/-- `MemRead(addr, 1)` (20_memory.md R61). -/
def memRead (addr : Nat) (s : State) : Except HaltReason Byte :=
  if addr > Config.maxAddress then .error (.memoryFault addr) else .ok (Memory.get s.mem addr)

/-- `MemWrite(addr, 1, v)` (20_memory.md R62). -/
def memWrite (addr : Nat) (v : Byte) (s : State) : Except HaltReason State :=
  if addr > Config.maxAddress then .error (.memoryFault addr) else .ok (setMem (Memory.set s.mem addr v) s)

/-! ### Registers -/

/-- `reg[r]` (00_scope.md R11; 10_state.md R31). -/
def getReg (r : Reg) (s : State) : Byte :=
  match r with
  | .a => s.a
  | .b => s.b
  | .c => s.c
  | .d => s.d
  | .e => s.e
  | .h => s.h
  | .l => s.l

/-- `reg[r] <- v`. -/
def setReg (r : Reg) (v : Byte) (s : State) : State :=
  match r with
  | .a => { s with a := v }
  | .b => { s with b := v }
  | .c => { s with c := v }
  | .d => { s with d := v }
  | .e => { s with e := v }
  | .h => { s with h := v }
  | .l => { s with l := v }

/-- `PC <- v`: done only by the engine's advance, HLT and `load` (10_state.md R35). -/
def setPc (v : Word) (s : State) : State := { s with pc := v }

/-- `run <- r` (10_state.md R39). -/
def setRun (r : RunState) (s : State) : State := { s with run := r }

/-- Count one free value as drawn (log entry 4). -/
def countDraw (s : State) : State := { s with draws := s.draws + 1 }

/-! ### Faults, the PC advance and the end of an instruction -/

/-- `raise F`: the one exception entry. Nothing of the instruction is committed, PC stays at its opcode, and the engine is
Halted with the fault's record (41_engine_loop.md R150; 60_exceptions.md R306). There is no return from it: Halted is
terminal and no instruction leaves it (60_exceptions.md R307). -/
def raise (f : HaltReason) (s : State) : State := setRun (.halted f) s

/-- The PC advance after the commit, for an instruction of operand length `n` other than HLT: past 0xFFFF the effects stay,
PC stays, and the engine halts with the fault the next fetch would raise (41_engine_loop.md R147, R148). -/
def advance (n : Nat) (s : State) : State :=
  let next := s.pc.toNat + 1 + n
  if next ≤ Config.maxAddress then setPc (BitVec.ofNat 16 next) s else raise (.memoryFault next) s

/-- The end of an instruction of operand length `n` that started in `s` and whose effect is `r`: a fault in the effect
commits nothing, otherwise the effect is committed and PC advances (41_engine_loop.md R145 to R148, R150, R151). -/
def finish (n : Nat) (s : State) (r : Except HaltReason State) : Outcome :=
  match r with
  | .error f => .next (raise f s)
  | .ok t => .next (advance n t)

/-- HLT: Halted(Hlt), and PC after the HLT byte; at 0xFFFF, PC takes the free value `PC_AFTER_TOP_HLT`
(41_engine_loop.md R149; 48_control.md R281; log entry 4). -/
def halt (s : State) : Outcome :=
  if s.pc.toNat + 1 ≤ Config.maxAddress then
    .next (setRun (.halted .hlt) (setPc (BitVec.ofNat 16 (s.pc.toNat + 1)) s))
  else
    .next (setRun (.halted .hlt) (setPc (Config.pcAfterTopHlt s.draws) (countDraw s)))

end Sys2Proof.Machine
end

