-- ==== Sys2Proof/Machine/Operands.lean ====
section
/-! DEFINITION. The operand forms (30_encoding.md R93 to R96): register pairs as views over the registers (10_state.md R33), SP,
the cell addressed by HL, and 8-bit operands that are a register or that cell. -/

namespace Sys2Proof.Machine

/-- `pair[rp]`: the views BC, DE and HL, or SP (10_state.md R33; 30_encoding.md R94). -/
def getPair (p : Pair) (s : State) : Word :=
  match p with
  | .bc => joinBytes s.b s.c
  | .de => joinBytes s.d s.e
  | .hl => joinBytes s.h s.l
  | .sp => s.sp

/-- `pair[rp] <- v`: `set_pair` for a pair, a write of SP for code 3 (10_state.md R33; 30_encoding.md R94). -/
def setPair (p : Pair) (v : Word) (s : State) : State :=
  match p with
  | .bc => { s with b := hiByte v, c := loByte v }
  | .de => { s with d := hiByte v, e := loByte v }
  | .hl => { s with h := hiByte v, l := loByte v }
  | .sp => { s with sp := v }

/-- The address of an `M` operand: the value of HL (30_encoding.md R96). -/
def hlAddr (s : State) : Nat := (getPair .hl s).toNat

/-- The value of an 8-bit operand; `M` is read through the memory port (30_encoding.md R96; 20_memory.md R61). -/
def readSrc (x : Src) (s : State) : Except HaltReason Byte :=
  match x with
  | .reg r => .ok (getReg r s)
  | .m => memRead (hlAddr s) s

/-- The value of an 8-bit operand as a total function: `reg[r]`, or the cell at HL, which is always inside the address space
(20_memory.md R68). Statements speak of an operand's value through it. -/
def operand (x : Src) (s : State) : Byte :=
  match x with
  | .reg r => getReg r s
  | .m => Memory.get s.mem (hlAddr s)

/-- The registers a pair is a view over; SP is no view (10_state.md R33, R34). -/
def pairHalves (p : Pair) : List Reg :=
  match p with
  | .bc => [.b, .c]
  | .de => [.d, .e]
  | .hl => [.h, .l]
  | .sp => []

end Sys2Proof.Machine
end

