-- ==== Sys2Proof/Machine/Flags.lean ====
section
/-! DEFINITION. The Flag Policy (40_flag_policy.md): pure functions of an operation's inputs, in exact arithmetic narrowed at
the end; and writing flags into the state. -/

namespace Sys2Proof.Machine

/-! ### Result flags -/

/-- The number of 1-bits of a byte (00_scope.md R9). -/
def popcount (v : Byte) : Nat := ((List.range 8).map (fun k => (v.getLsbD k).toNat)).sum

/-- `ZSP(v)`: Zero, Sign and Parity from an 8-bit result; AC and CY stay (40_flag_policy.md R121). -/
def withZsp (v : Byte) (f : Flags) : Flags :=
  { f with z := v == 0x00#8, s := v.getLsbD 7, p := popcount v % 2 == 0 }

/-! ### 8-bit arithmetic -/

/-- What an 8-bit operation returns: the wrapped result, CY and AC. -/
structure Alu8 where
  r : Byte
  cy : Bool
  ac : Bool
  deriving DecidableEq, Repr

/-- `add8(a, b, cin)` (40_flag_policy.md R123). -/
def add8 (a b : Byte) (cin : Bool) : Alu8 :=
  let s := a.toNat + b.toNat + cin.toNat
  { r := BitVec.ofNat 8 s
    cy := decide (s > 0xFF)
    ac := decide (a.toNat % 16 + b.toNat % 16 + cin.toNat > 0xF) }

/-- AC of a subtraction under each `SUB_AC_RULE` (40_flag_policy.md R124). -/
def subAc (rule : SubAcRule) (a b : Byte) (bin : Bool) : Bool :=
  match rule with
  | .complementAdd => decide (a.toNat % 16 + (~~~b).toNat % 16 + (1 - bin.toNat) > 0xF)
  | .borrow => decide (a.toNat % 16 < b.toNat % 16 + bin.toNat)

/-- `sub8(a, b, bin)`: the addition of the complement, CY the borrow (40_flag_policy.md R124). -/
def sub8 (rule : SubAcRule) (a b : Byte) (bin : Bool) : Alu8 :=
  let t := a.toNat + (~~~b).toNat + (1 - bin.toNat)
  { r := BitVec.ofNat 8 t
    cy := !decide (t > 0xFF)
    ac := subAc rule a b bin }

/-- `inc8(v)` is `add8(v, 1, 0)` without its CY (40_flag_policy.md R125). -/
def inc8 (v : Byte) : Byte × Bool := ((add8 v 0x01#8 false).r, (add8 v 0x01#8 false).ac)

/-- `dec8(v)` is `sub8(v, 1, 0)` without its CY (40_flag_policy.md R125). -/
def dec8 (rule : SubAcRule) (v : Byte) : Byte × Bool :=
  ((sub8 rule v 0x01#8 false).r, (sub8 rule v 0x01#8 false).ac)

/-! ### 16-bit addition -/

/-- `add16(x, y)`: the wrapped sum and CY from the 17-bit sum (40_flag_policy.md R126). -/
def add16 (x y : Word) : Word × Bool :=
  let s := x.toNat + y.toNat
  (BitVec.ofNat 16 s, decide (s > 0xFFFF))

/-! ### Decimal adjust -/

/-- The DAA procedure: one addition of the correction, CY set by the high adjustment and never cleared
(45_arithmetic.md R239; 90_conflicts.md C6). -/
def daa8 (a : Byte) (ac cy : Bool) : Alu8 :=
  let loNib := a.toNat % 16
  let hiNib := a.toNat / 16
  let lo := decide (loNib > 9) || ac
  let hi := cy || decide (hiNib > 9) || (decide (hiNib ≥ 9) && decide (loNib > 9))
  let corr := (if lo then 0x06 else 0) ||| (if hi then 0x60 else 0)
  { r := BitVec.ofNat 8 (a.toNat + corr)
    cy := cy || hi
    ac := decide (loNib + corr % 16 > 0xF) }

/-! ### Writing flags -/

/-- Write Z, S, P from the result and AC; CY stays: the flags INR and DCR declare (40_flag_policy.md R127). -/
def setZspAc (v : Byte) (ac : Bool) (s : State) : State :=
  { s with flags := { withZsp v s.flags with ac := ac } }

/-- Write all five flags: those of the 8-bit arithmetic and DAA (40_flag_policy.md R127). -/
def setAllFlags (x : Alu8) (s : State) : State :=
  { s with flags := { withZsp x.r s.flags with ac := x.ac, cy := x.cy } }

/-- Write CY alone (40_flag_policy.md R127). -/
def setCarry (cy : Bool) (s : State) : State := { s with flags := { s.flags with cy := cy } }

/-- The value of one flag. -/
def getFlag (f : Flag) (s : State) : Bool :=
  match f with
  | .z => s.flags.z
  | .s => s.flags.s
  | .p => s.flags.p
  | .ac => s.flags.ac
  | .cy => s.flags.cy

end Sys2Proof.Machine
end

