-- ==== Sys2Proof/Machine/Arithmetic.lean ====
section
/-! DEFINITION. Arithmetic: ADD, ADC, SUB, SBB, DAD and DAA (45_arithmetic.md). The 8-bit forms and DAA write all five flags,
DAD writes CY alone. -/

namespace Sys2Proof.Machine

/-- `A <- r` with all five flags: the end of every 8-bit arithmetic form. -/
def setResult (x : Alu8) (s : State) : State := setAllFlags x (setReg .a x.r s)

/-- ADD (45_arithmetic.md R230, R231). -/
def addEffect (x : Src) (s : State) : Except HaltReason State :=
  (readSrc x s).map (fun v => setResult (add8 s.a v false) s)

/-- ADC: CY is read first (45_arithmetic.md R232, R233). -/
def adcEffect (x : Src) (s : State) : Except HaltReason State :=
  (readSrc x s).map (fun v => setResult (add8 s.a v s.flags.cy) s)

/-- SUB (45_arithmetic.md R234, R235). -/
def subEffect (x : Src) (s : State) : Except HaltReason State :=
  (readSrc x s).map (fun v => setResult (sub8 s.subAcRule s.a v false) s)

/-- SBB: CY is read first (45_arithmetic.md R236, R237). -/
def sbbEffect (x : Src) (s : State) : Except HaltReason State :=
  (readSrc x s).map (fun v => setResult (sub8 s.subAcRule s.a v s.flags.cy) s)

/-- `HL <- HL + pair[p]`, CY the carry of the 17-bit sum (45_arithmetic.md R238). -/
def dadEffect (p : Pair) (s : State) : Except HaltReason State :=
  let x := add16 (getPair .hl s) (getPair p s)
  .ok (setCarry x.2 (setPair .hl x.1 s))

/-- DAA (45_arithmetic.md R239). -/
def daaEffect (s : State) : Except HaltReason State := .ok (setResult (daa8 s.a s.flags.ac s.flags.cy) s)

/-! ### The instructions -/

/-- `ADD B` (45_arithmetic.md R230). -/
def execAddB (s : State) : Outcome := finish 0 s (addEffect (.reg .b) s)

/-- `ADD C` (45_arithmetic.md R230). -/
def execAddC (s : State) : Outcome := finish 0 s (addEffect (.reg .c) s)

/-- `ADD D` (45_arithmetic.md R230). -/
def execAddD (s : State) : Outcome := finish 0 s (addEffect (.reg .d) s)

/-- `ADD E` (45_arithmetic.md R230). -/
def execAddE (s : State) : Outcome := finish 0 s (addEffect (.reg .e) s)

/-- `ADD H` (45_arithmetic.md R230). -/
def execAddH (s : State) : Outcome := finish 0 s (addEffect (.reg .h) s)

/-- `ADD L` (45_arithmetic.md R230). -/
def execAddL (s : State) : Outcome := finish 0 s (addEffect (.reg .l) s)

/-- `ADD A` (45_arithmetic.md R230). -/
def execAddA (s : State) : Outcome := finish 0 s (addEffect (.reg .a) s)

/-- `ADD M` (45_arithmetic.md R231). -/
def execAddM (s : State) : Outcome := finish 0 s (addEffect .m s)

/-- `ADC B` (45_arithmetic.md R232). -/
def execAdcB (s : State) : Outcome := finish 0 s (adcEffect (.reg .b) s)

/-- `ADC C` (45_arithmetic.md R232). -/
def execAdcC (s : State) : Outcome := finish 0 s (adcEffect (.reg .c) s)

/-- `ADC D` (45_arithmetic.md R232). -/
def execAdcD (s : State) : Outcome := finish 0 s (adcEffect (.reg .d) s)

/-- `ADC E` (45_arithmetic.md R232). -/
def execAdcE (s : State) : Outcome := finish 0 s (adcEffect (.reg .e) s)

/-- `ADC H` (45_arithmetic.md R232). -/
def execAdcH (s : State) : Outcome := finish 0 s (adcEffect (.reg .h) s)

/-- `ADC L` (45_arithmetic.md R232). -/
def execAdcL (s : State) : Outcome := finish 0 s (adcEffect (.reg .l) s)

/-- `ADC A` (45_arithmetic.md R232). -/
def execAdcA (s : State) : Outcome := finish 0 s (adcEffect (.reg .a) s)

/-- `ADC M` (45_arithmetic.md R233). -/
def execAdcM (s : State) : Outcome := finish 0 s (adcEffect .m s)

/-- `SUB B` (45_arithmetic.md R234). -/
def execSubB (s : State) : Outcome := finish 0 s (subEffect (.reg .b) s)

/-- `SUB C` (45_arithmetic.md R234). -/
def execSubC (s : State) : Outcome := finish 0 s (subEffect (.reg .c) s)

/-- `SUB D` (45_arithmetic.md R234). -/
def execSubD (s : State) : Outcome := finish 0 s (subEffect (.reg .d) s)

/-- `SUB E` (45_arithmetic.md R234). -/
def execSubE (s : State) : Outcome := finish 0 s (subEffect (.reg .e) s)

/-- `SUB H` (45_arithmetic.md R234). -/
def execSubH (s : State) : Outcome := finish 0 s (subEffect (.reg .h) s)

/-- `SUB L` (45_arithmetic.md R234). -/
def execSubL (s : State) : Outcome := finish 0 s (subEffect (.reg .l) s)

/-- `SUB A` (45_arithmetic.md R234). -/
def execSubA (s : State) : Outcome := finish 0 s (subEffect (.reg .a) s)

/-- `SUB M` (45_arithmetic.md R235). -/
def execSubM (s : State) : Outcome := finish 0 s (subEffect .m s)

/-- `SBB B` (45_arithmetic.md R236). -/
def execSbbB (s : State) : Outcome := finish 0 s (sbbEffect (.reg .b) s)

/-- `SBB C` (45_arithmetic.md R236). -/
def execSbbC (s : State) : Outcome := finish 0 s (sbbEffect (.reg .c) s)

/-- `SBB D` (45_arithmetic.md R236). -/
def execSbbD (s : State) : Outcome := finish 0 s (sbbEffect (.reg .d) s)

/-- `SBB E` (45_arithmetic.md R236). -/
def execSbbE (s : State) : Outcome := finish 0 s (sbbEffect (.reg .e) s)

/-- `SBB H` (45_arithmetic.md R236). -/
def execSbbH (s : State) : Outcome := finish 0 s (sbbEffect (.reg .h) s)

/-- `SBB L` (45_arithmetic.md R236). -/
def execSbbL (s : State) : Outcome := finish 0 s (sbbEffect (.reg .l) s)

/-- `SBB A` (45_arithmetic.md R236). -/
def execSbbA (s : State) : Outcome := finish 0 s (sbbEffect (.reg .a) s)

/-- `SBB M` (45_arithmetic.md R237). -/
def execSbbM (s : State) : Outcome := finish 0 s (sbbEffect .m s)

/-- `DAD B` (45_arithmetic.md R238). -/
def execDadB (s : State) : Outcome := finish 0 s (dadEffect .bc s)

/-- `DAD D` (45_arithmetic.md R238). -/
def execDadD (s : State) : Outcome := finish 0 s (dadEffect .de s)

/-- `DAD H` (45_arithmetic.md R238). -/
def execDadH (s : State) : Outcome := finish 0 s (dadEffect .hl s)

/-- `DAD SP` (45_arithmetic.md R238). -/
def execDadSP (s : State) : Outcome := finish 0 s (dadEffect .sp s)

/-- `DAA` (45_arithmetic.md R239). -/
def execDaa (s : State) : Outcome := finish 0 s (daaEffect s)

end Sys2Proof.Machine
end

