-- ==== Sys2Proof/Machine/Complement.lean ====
section
/-! DEFINITION. Complement and carry set: CMA, STC, CMC (47_complement_carry.md). -/

namespace Sys2Proof.Machine

/-- `A <- ~A`; no flag (47_complement_carry.md R270). -/
def cmaEffect (s : State) : Except HaltReason State := .ok (setReg .a (~~~s.a) s)

/-- `CY <- 1` (47_complement_carry.md R271). -/
def stcEffect (s : State) : Except HaltReason State := .ok (setCarry true s)

/-- `CY <- 1 - CY` (47_complement_carry.md R272). -/
def cmcEffect (s : State) : Except HaltReason State := .ok (setCarry (!s.flags.cy) s)

/-! ### The instructions -/

/-- `CMA` (47_complement_carry.md R270). -/
def execCma (s : State) : Outcome := finish 0 s (cmaEffect s)

/-- `STC` (47_complement_carry.md R271). -/
def execStc (s : State) : Outcome := finish 0 s (stcEffect s)

/-- `CMC` (47_complement_carry.md R272). -/
def execCmc (s : State) : Outcome := finish 0 s (cmcEffect s)

end Sys2Proof.Machine
end

