-- ==== Sys2Proof/Machine/Control.lean ====
section
/-! DEFINITION. Control: NOP, HLT and the unimplemented opcodes (48_control.md). -/

namespace Sys2Proof.Machine

/-- Nothing (48_control.md R280). -/
def nopEffect (s : State) : Except HaltReason State := .ok s

/-! ### The instructions -/

/-- `NOP` (48_control.md R280). -/
def execNop (s : State) : Outcome := finish 0 s (nopEffect s)

/-- `HLT` (48_control.md R281). -/
def execHlt (s : State) : Outcome := halt s

/-- An opcode with no table entry raises UnimplementedOpcode(PC, op): nothing else of the state changes (48_control.md R282; 41_engine_loop.md R143, R150). -/
def execUnimplemented (op : Byte) (s : State) : Outcome := .next (raise (.unimplementedOpcode s.pc op) s)

end Sys2Proof.Machine
end

