-- ==== Sys2Proof/Machine/DataMove.lean ====
section
/-! DEFINITION. Data move: MOV and MVI (42_data_move.md). No flag is written. -/

namespace Sys2Proof.Machine

/-- `reg[rd] <- reg[rs]` (42_data_move.md R170). -/
def movRegEffect (rd rs : Reg) (s : State) : Except HaltReason State := .ok (setReg rd (getReg rs s) s)

/-- `reg[rd] <- MemRead(get_pair(HL), 1)` (42_data_move.md R171). -/
def movLoadEffect (rd : Reg) (s : State) : Except HaltReason State :=
  (memRead (hlAddr s) s).map (fun v => setReg rd v s)

/-- `MemWrite(get_pair(HL), 1, reg[rs])` (42_data_move.md R172). -/
def movStoreEffect (rs : Reg) (s : State) : Except HaltReason State := memWrite (hlAddr s) (getReg rs s) s

/-- `reg[rd] <- d8` (42_data_move.md R173). -/
def mviRegEffect (rd : Reg) (d8 : Byte) (s : State) : Except HaltReason State := .ok (setReg rd d8 s)

/-- `MemWrite(get_pair(HL), 1, d8)` (42_data_move.md R174). -/
def mviMemEffect (d8 : Byte) (s : State) : Except HaltReason State := memWrite (hlAddr s) d8 s

/-! ### The instructions -/

/-- `MOV B,B` (42_data_move.md R170). -/
def execMovBB (s : State) : Outcome := finish 0 s (movRegEffect .b .b s)

/-- `MOV B,C` (42_data_move.md R170). -/
def execMovBC (s : State) : Outcome := finish 0 s (movRegEffect .b .c s)

/-- `MOV B,D` (42_data_move.md R170). -/
def execMovBD (s : State) : Outcome := finish 0 s (movRegEffect .b .d s)

/-- `MOV B,E` (42_data_move.md R170). -/
def execMovBE (s : State) : Outcome := finish 0 s (movRegEffect .b .e s)

/-- `MOV B,H` (42_data_move.md R170). -/
def execMovBH (s : State) : Outcome := finish 0 s (movRegEffect .b .h s)

/-- `MOV B,L` (42_data_move.md R170). -/
def execMovBL (s : State) : Outcome := finish 0 s (movRegEffect .b .l s)

/-- `MOV B,A` (42_data_move.md R170). -/
def execMovBA (s : State) : Outcome := finish 0 s (movRegEffect .b .a s)

/-- `MOV C,B` (42_data_move.md R170). -/
def execMovCB (s : State) : Outcome := finish 0 s (movRegEffect .c .b s)

/-- `MOV C,C` (42_data_move.md R170). -/
def execMovCC (s : State) : Outcome := finish 0 s (movRegEffect .c .c s)

/-- `MOV C,D` (42_data_move.md R170). -/
def execMovCD (s : State) : Outcome := finish 0 s (movRegEffect .c .d s)

/-- `MOV C,E` (42_data_move.md R170). -/
def execMovCE (s : State) : Outcome := finish 0 s (movRegEffect .c .e s)

/-- `MOV C,H` (42_data_move.md R170). -/
def execMovCH (s : State) : Outcome := finish 0 s (movRegEffect .c .h s)

/-- `MOV C,L` (42_data_move.md R170). -/
def execMovCL (s : State) : Outcome := finish 0 s (movRegEffect .c .l s)

/-- `MOV C,A` (42_data_move.md R170). -/
def execMovCA (s : State) : Outcome := finish 0 s (movRegEffect .c .a s)

/-- `MOV D,B` (42_data_move.md R170). -/
def execMovDB (s : State) : Outcome := finish 0 s (movRegEffect .d .b s)

/-- `MOV D,C` (42_data_move.md R170). -/
def execMovDC (s : State) : Outcome := finish 0 s (movRegEffect .d .c s)

/-- `MOV D,D` (42_data_move.md R170). -/
def execMovDD (s : State) : Outcome := finish 0 s (movRegEffect .d .d s)

/-- `MOV D,E` (42_data_move.md R170). -/
def execMovDE (s : State) : Outcome := finish 0 s (movRegEffect .d .e s)

/-- `MOV D,H` (42_data_move.md R170). -/
def execMovDH (s : State) : Outcome := finish 0 s (movRegEffect .d .h s)

/-- `MOV D,L` (42_data_move.md R170). -/
def execMovDL (s : State) : Outcome := finish 0 s (movRegEffect .d .l s)

/-- `MOV D,A` (42_data_move.md R170). -/
def execMovDA (s : State) : Outcome := finish 0 s (movRegEffect .d .a s)

/-- `MOV E,B` (42_data_move.md R170). -/
def execMovEB (s : State) : Outcome := finish 0 s (movRegEffect .e .b s)

/-- `MOV E,C` (42_data_move.md R170). -/
def execMovEC (s : State) : Outcome := finish 0 s (movRegEffect .e .c s)

/-- `MOV E,D` (42_data_move.md R170). -/
def execMovED (s : State) : Outcome := finish 0 s (movRegEffect .e .d s)

/-- `MOV E,E` (42_data_move.md R170). -/
def execMovEE (s : State) : Outcome := finish 0 s (movRegEffect .e .e s)

/-- `MOV E,H` (42_data_move.md R170). -/
def execMovEH (s : State) : Outcome := finish 0 s (movRegEffect .e .h s)

/-- `MOV E,L` (42_data_move.md R170). -/
def execMovEL (s : State) : Outcome := finish 0 s (movRegEffect .e .l s)

/-- `MOV E,A` (42_data_move.md R170). -/
def execMovEA (s : State) : Outcome := finish 0 s (movRegEffect .e .a s)

/-- `MOV H,B` (42_data_move.md R170). -/
def execMovHB (s : State) : Outcome := finish 0 s (movRegEffect .h .b s)

/-- `MOV H,C` (42_data_move.md R170). -/
def execMovHC (s : State) : Outcome := finish 0 s (movRegEffect .h .c s)

/-- `MOV H,D` (42_data_move.md R170). -/
def execMovHD (s : State) : Outcome := finish 0 s (movRegEffect .h .d s)

/-- `MOV H,E` (42_data_move.md R170). -/
def execMovHE (s : State) : Outcome := finish 0 s (movRegEffect .h .e s)

/-- `MOV H,H` (42_data_move.md R170). -/
def execMovHH (s : State) : Outcome := finish 0 s (movRegEffect .h .h s)

/-- `MOV H,L` (42_data_move.md R170). -/
def execMovHL (s : State) : Outcome := finish 0 s (movRegEffect .h .l s)

/-- `MOV H,A` (42_data_move.md R170). -/
def execMovHA (s : State) : Outcome := finish 0 s (movRegEffect .h .a s)

/-- `MOV L,B` (42_data_move.md R170). -/
def execMovLB (s : State) : Outcome := finish 0 s (movRegEffect .l .b s)

/-- `MOV L,C` (42_data_move.md R170). -/
def execMovLC (s : State) : Outcome := finish 0 s (movRegEffect .l .c s)

/-- `MOV L,D` (42_data_move.md R170). -/
def execMovLD (s : State) : Outcome := finish 0 s (movRegEffect .l .d s)

/-- `MOV L,E` (42_data_move.md R170). -/
def execMovLE (s : State) : Outcome := finish 0 s (movRegEffect .l .e s)

/-- `MOV L,H` (42_data_move.md R170). -/
def execMovLH (s : State) : Outcome := finish 0 s (movRegEffect .l .h s)

/-- `MOV L,L` (42_data_move.md R170). -/
def execMovLL (s : State) : Outcome := finish 0 s (movRegEffect .l .l s)

/-- `MOV L,A` (42_data_move.md R170). -/
def execMovLA (s : State) : Outcome := finish 0 s (movRegEffect .l .a s)

/-- `MOV A,B` (42_data_move.md R170). -/
def execMovAB (s : State) : Outcome := finish 0 s (movRegEffect .a .b s)

/-- `MOV A,C` (42_data_move.md R170). -/
def execMovAC (s : State) : Outcome := finish 0 s (movRegEffect .a .c s)

/-- `MOV A,D` (42_data_move.md R170). -/
def execMovAD (s : State) : Outcome := finish 0 s (movRegEffect .a .d s)

/-- `MOV A,E` (42_data_move.md R170). -/
def execMovAE (s : State) : Outcome := finish 0 s (movRegEffect .a .e s)

/-- `MOV A,H` (42_data_move.md R170). -/
def execMovAH (s : State) : Outcome := finish 0 s (movRegEffect .a .h s)

/-- `MOV A,L` (42_data_move.md R170). -/
def execMovAL (s : State) : Outcome := finish 0 s (movRegEffect .a .l s)

/-- `MOV A,A` (42_data_move.md R170). -/
def execMovAA (s : State) : Outcome := finish 0 s (movRegEffect .a .a s)

/-- `MOV B,M` (42_data_move.md R171). -/
def execMovBM (s : State) : Outcome := finish 0 s (movLoadEffect .b s)

/-- `MOV C,M` (42_data_move.md R171). -/
def execMovCM (s : State) : Outcome := finish 0 s (movLoadEffect .c s)

/-- `MOV D,M` (42_data_move.md R171). -/
def execMovDM (s : State) : Outcome := finish 0 s (movLoadEffect .d s)

/-- `MOV E,M` (42_data_move.md R171). -/
def execMovEM (s : State) : Outcome := finish 0 s (movLoadEffect .e s)

/-- `MOV H,M` (42_data_move.md R171). -/
def execMovHM (s : State) : Outcome := finish 0 s (movLoadEffect .h s)

/-- `MOV L,M` (42_data_move.md R171). -/
def execMovLM (s : State) : Outcome := finish 0 s (movLoadEffect .l s)

/-- `MOV A,M` (42_data_move.md R171). -/
def execMovAM (s : State) : Outcome := finish 0 s (movLoadEffect .a s)

/-- `MOV M,B` (42_data_move.md R172). -/
def execMovMB (s : State) : Outcome := finish 0 s (movStoreEffect .b s)

/-- `MOV M,C` (42_data_move.md R172). -/
def execMovMC (s : State) : Outcome := finish 0 s (movStoreEffect .c s)

/-- `MOV M,D` (42_data_move.md R172). -/
def execMovMD (s : State) : Outcome := finish 0 s (movStoreEffect .d s)

/-- `MOV M,E` (42_data_move.md R172). -/
def execMovME (s : State) : Outcome := finish 0 s (movStoreEffect .e s)

/-- `MOV M,H` (42_data_move.md R172). -/
def execMovMH (s : State) : Outcome := finish 0 s (movStoreEffect .h s)

/-- `MOV M,L` (42_data_move.md R172). -/
def execMovML (s : State) : Outcome := finish 0 s (movStoreEffect .l s)

/-- `MOV M,A` (42_data_move.md R172). -/
def execMovMA (s : State) : Outcome := finish 0 s (movStoreEffect .a s)

/-- `MVI B,d8` (42_data_move.md R173). -/
def execMviB (d8 : Byte) (s : State) : Outcome := finish 1 s (mviRegEffect .b d8 s)

/-- `MVI C,d8` (42_data_move.md R173). -/
def execMviC (d8 : Byte) (s : State) : Outcome := finish 1 s (mviRegEffect .c d8 s)

/-- `MVI D,d8` (42_data_move.md R173). -/
def execMviD (d8 : Byte) (s : State) : Outcome := finish 1 s (mviRegEffect .d d8 s)

/-- `MVI E,d8` (42_data_move.md R173). -/
def execMviE (d8 : Byte) (s : State) : Outcome := finish 1 s (mviRegEffect .e d8 s)

/-- `MVI H,d8` (42_data_move.md R173). -/
def execMviH (d8 : Byte) (s : State) : Outcome := finish 1 s (mviRegEffect .h d8 s)

/-- `MVI L,d8` (42_data_move.md R173). -/
def execMviL (d8 : Byte) (s : State) : Outcome := finish 1 s (mviRegEffect .l d8 s)

/-- `MVI A,d8` (42_data_move.md R173). -/
def execMviA (d8 : Byte) (s : State) : Outcome := finish 1 s (mviRegEffect .a d8 s)

/-- `MVI M,d8` (42_data_move.md R174). -/
def execMviM (d8 : Byte) (s : State) : Outcome := finish 1 s (mviMemEffect d8 s)

end Sys2Proof.Machine
end

