-- ==== Sys2Proof/Machine/IncDec.lean ====
section
/-! DEFINITION. Increment and decrement: INR, DCR, INX, DCX (44_inc_dec.md). INR and DCR write Z, S, P and AC, never CY; INX
and DCX write no flag. -/

namespace Sys2Proof.Machine

/-- INR of a register (44_inc_dec.md R210). -/
def inrRegEffect (rd : Reg) (s : State) : Except HaltReason State :=
  let x := inc8 (getReg rd s)
  .ok (setZspAc x.1 x.2 (setReg rd x.1 s))

/-- INR of the cell at HL (44_inc_dec.md R211). -/
def inrMemEffect (s : State) : Except HaltReason State :=
  (memRead (hlAddr s) s).bind (fun v =>
    let x := inc8 v
    (memWrite (hlAddr s) x.1 s).map (setZspAc x.1 x.2))

/-- DCR of a register (44_inc_dec.md R212). -/
def dcrRegEffect (rd : Reg) (s : State) : Except HaltReason State :=
  let x := dec8 s.subAcRule (getReg rd s)
  .ok (setZspAc x.1 x.2 (setReg rd x.1 s))

/-- DCR of the cell at HL (44_inc_dec.md R213). -/
def dcrMemEffect (s : State) : Except HaltReason State :=
  (memRead (hlAddr s) s).bind (fun v =>
    let x := dec8 s.subAcRule v
    (memWrite (hlAddr s) x.1 s).map (setZspAc x.1 x.2))

/-- `pair[p] <- (pair[p] + 1) mod 65536` (44_inc_dec.md R214). -/
def inxEffect (p : Pair) (s : State) : Except HaltReason State := .ok (setPair p (getPair p s + 1#16) s)

/-- `pair[p] <- (pair[p] - 1) mod 65536` (44_inc_dec.md R215). -/
def dcxEffect (p : Pair) (s : State) : Except HaltReason State := .ok (setPair p (getPair p s - 1#16) s)

/-! ### The instructions -/

/-- `INR B` (44_inc_dec.md R210). -/
def execInrB (s : State) : Outcome := finish 0 s (inrRegEffect .b s)

/-- `INR C` (44_inc_dec.md R210). -/
def execInrC (s : State) : Outcome := finish 0 s (inrRegEffect .c s)

/-- `INR D` (44_inc_dec.md R210). -/
def execInrD (s : State) : Outcome := finish 0 s (inrRegEffect .d s)

/-- `INR E` (44_inc_dec.md R210). -/
def execInrE (s : State) : Outcome := finish 0 s (inrRegEffect .e s)

/-- `INR H` (44_inc_dec.md R210). -/
def execInrH (s : State) : Outcome := finish 0 s (inrRegEffect .h s)

/-- `INR L` (44_inc_dec.md R210). -/
def execInrL (s : State) : Outcome := finish 0 s (inrRegEffect .l s)

/-- `INR A` (44_inc_dec.md R210). -/
def execInrA (s : State) : Outcome := finish 0 s (inrRegEffect .a s)

/-- `INR M` (44_inc_dec.md R211). -/
def execInrM (s : State) : Outcome := finish 0 s (inrMemEffect s)

/-- `DCR B` (44_inc_dec.md R212). -/
def execDcrB (s : State) : Outcome := finish 0 s (dcrRegEffect .b s)

/-- `DCR C` (44_inc_dec.md R212). -/
def execDcrC (s : State) : Outcome := finish 0 s (dcrRegEffect .c s)

/-- `DCR D` (44_inc_dec.md R212). -/
def execDcrD (s : State) : Outcome := finish 0 s (dcrRegEffect .d s)

/-- `DCR E` (44_inc_dec.md R212). -/
def execDcrE (s : State) : Outcome := finish 0 s (dcrRegEffect .e s)

/-- `DCR H` (44_inc_dec.md R212). -/
def execDcrH (s : State) : Outcome := finish 0 s (dcrRegEffect .h s)

/-- `DCR L` (44_inc_dec.md R212). -/
def execDcrL (s : State) : Outcome := finish 0 s (dcrRegEffect .l s)

/-- `DCR A` (44_inc_dec.md R212). -/
def execDcrA (s : State) : Outcome := finish 0 s (dcrRegEffect .a s)

/-- `DCR M` (44_inc_dec.md R213). -/
def execDcrM (s : State) : Outcome := finish 0 s (dcrMemEffect s)

/-- `INX B` (44_inc_dec.md R214). -/
def execInxB (s : State) : Outcome := finish 0 s (inxEffect .bc s)

/-- `INX D` (44_inc_dec.md R214). -/
def execInxD (s : State) : Outcome := finish 0 s (inxEffect .de s)

/-- `INX H` (44_inc_dec.md R214). -/
def execInxH (s : State) : Outcome := finish 0 s (inxEffect .hl s)

/-- `INX SP` (44_inc_dec.md R214). -/
def execInxSP (s : State) : Outcome := finish 0 s (inxEffect .sp s)

/-- `DCX B` (44_inc_dec.md R215). -/
def execDcxB (s : State) : Outcome := finish 0 s (dcxEffect .bc s)

/-- `DCX D` (44_inc_dec.md R215). -/
def execDcxD (s : State) : Outcome := finish 0 s (dcxEffect .de s)

/-- `DCX H` (44_inc_dec.md R215). -/
def execDcxH (s : State) : Outcome := finish 0 s (dcxEffect .hl s)

/-- `DCX SP` (44_inc_dec.md R215). -/
def execDcxSP (s : State) : Outcome := finish 0 s (dcxEffect .sp s)

end Sys2Proof.Machine
end

