-- ==== Sys2Proof/Machine/LoadStore.lean ====
section
/-! DEFINITION. Register-pair load and store: LXI, STAX, LDAX, SHLD, LHLD, STA, LDA (43_load_store.md). No flag is written. -/

namespace Sys2Proof.Machine

/-- `pair[p] <- d16` (43_load_store.md R190). -/
def lxiEffect (p : Pair) (d16 : Word) (s : State) : Except HaltReason State := .ok (setPair p d16 s)

/-- `MemWrite(pair[p], 1, A)` (43_load_store.md R191). -/
def staxEffect (p : Pair) (s : State) : Except HaltReason State := memWrite (getPair p s).toNat s.a s

/-- `A <- MemRead(pair[p], 1)` (43_load_store.md R192). -/
def ldaxEffect (p : Pair) (s : State) : Except HaltReason State :=
  (memRead (getPair p s).toNat s).map (fun v => setReg .a v s)

/-- L to `a16`, H to `a16 + 1`; the second address does not wrap, and its fault leaves no cell written
(43_load_store.md R193). -/
def shldEffect (a16 : Word) (s : State) : Except HaltReason State :=
  (memWrite a16.toNat s.l s).bind (fun t => memWrite (a16.toNat + 1) s.h t)

/-- L from `a16`, H from `a16 + 1`; a fault of the second read leaves both unwritten (43_load_store.md R194). -/
def lhldEffect (a16 : Word) (s : State) : Except HaltReason State :=
  (memRead a16.toNat s).bind (fun lo =>
    (memRead (a16.toNat + 1) s).map (fun hi => setReg .l lo (setReg .h hi s)))

/-- `MemWrite(a16, 1, A)` (43_load_store.md R195). -/
def staEffect (a16 : Word) (s : State) : Except HaltReason State := memWrite a16.toNat s.a s

/-- `A <- MemRead(a16, 1)` (43_load_store.md R196). -/
def ldaEffect (a16 : Word) (s : State) : Except HaltReason State :=
  (memRead a16.toNat s).map (fun v => setReg .a v s)

/-! ### The instructions -/

/-- `LXI B,d16` (43_load_store.md R190). -/
def execLxiB (d16 : Word) (s : State) : Outcome := finish 2 s (lxiEffect .bc d16 s)

/-- `LXI D,d16` (43_load_store.md R190). -/
def execLxiD (d16 : Word) (s : State) : Outcome := finish 2 s (lxiEffect .de d16 s)

/-- `LXI H,d16` (43_load_store.md R190). -/
def execLxiH (d16 : Word) (s : State) : Outcome := finish 2 s (lxiEffect .hl d16 s)

/-- `LXI SP,d16` (43_load_store.md R190). -/
def execLxiSP (d16 : Word) (s : State) : Outcome := finish 2 s (lxiEffect .sp d16 s)

/-- `STAX B` (43_load_store.md R191). -/
def execStaxB (s : State) : Outcome := finish 0 s (staxEffect .bc s)

/-- `STAX D` (43_load_store.md R191). -/
def execStaxD (s : State) : Outcome := finish 0 s (staxEffect .de s)

/-- `LDAX B` (43_load_store.md R192). -/
def execLdaxB (s : State) : Outcome := finish 0 s (ldaxEffect .bc s)

/-- `LDAX D` (43_load_store.md R192). -/
def execLdaxD (s : State) : Outcome := finish 0 s (ldaxEffect .de s)

/-- `SHLD a16` (43_load_store.md R193). -/
def execShld (a16 : Word) (s : State) : Outcome := finish 2 s (shldEffect a16 s)

/-- `LHLD a16` (43_load_store.md R194). -/
def execLhld (a16 : Word) (s : State) : Outcome := finish 2 s (lhldEffect a16 s)

/-- `STA a16` (43_load_store.md R195). -/
def execSta (a16 : Word) (s : State) : Outcome := finish 2 s (staEffect a16 s)

/-- `LDA a16` (43_load_store.md R196). -/
def execLda (a16 : Word) (s : State) : Outcome := finish 2 s (ldaEffect a16 s)

end Sys2Proof.Machine
end

