-- ==== Sys2Proof/Machine/Rotate.lean ====
section
/-! DEFINITION. Rotate: RLC and RRC circular, RAL and RAR through Carry (46_rotate.md). CY alone is written. -/

namespace Sys2Proof.Machine

/-- A shifted left by one with `low` entering bit 0: `((A << 1) | low) mod 256`. -/
def shiftLeftIn (v : Byte) (low : Bool) : Byte := v <<< 1 ||| BitVec.ofNat 8 low.toNat

/-- A shifted right by one with `high` entering bit 7: `(A >> 1) | (high << 7)`. -/
def shiftRightIn (v : Byte) (high : Bool) : Byte := v >>> 1 ||| BitVec.ofNat 8 high.toNat <<< 7

/-- `A <- r; CY <- c`: the end of every rotate. -/
def setRotated (r : Byte) (c : Bool) (s : State) : State := setCarry c (setReg .a r s)

/-- RLC (46_rotate.md R260). -/
def rlcEffect (s : State) : Except HaltReason State :=
  .ok (setRotated (shiftLeftIn s.a (s.a.getLsbD 7)) (s.a.getLsbD 7) s)

/-- RRC (46_rotate.md R261). -/
def rrcEffect (s : State) : Except HaltReason State :=
  .ok (setRotated (shiftRightIn s.a (s.a.getLsbD 0)) (s.a.getLsbD 0) s)

/-- RAL: the old CY enters bit 0 (46_rotate.md R262). -/
def ralEffect (s : State) : Except HaltReason State :=
  .ok (setRotated (shiftLeftIn s.a s.flags.cy) (s.a.getLsbD 7) s)

/-- RAR: the old CY enters bit 7 (46_rotate.md R263). -/
def rarEffect (s : State) : Except HaltReason State :=
  .ok (setRotated (shiftRightIn s.a s.flags.cy) (s.a.getLsbD 0) s)

/-! ### The instructions -/

/-- `RLC` (46_rotate.md R260). -/
def execRlc (s : State) : Outcome := finish 0 s (rlcEffect s)

/-- `RRC` (46_rotate.md R261). -/
def execRrc (s : State) : Outcome := finish 0 s (rrcEffect s)

/-- `RAL` (46_rotate.md R262). -/
def execRal (s : State) : Outcome := finish 0 s (ralEffect s)

/-- `RAR` (46_rotate.md R263). -/
def execRar (s : State) : Outcome := finish 0 s (rarEffect s)

end Sys2Proof.Machine
end

