-- ==== Sys2Proof/Machine/Fetch.lean ====
section
/-! DEFINITION. Fetching an instruction (41_engine_loop.md R142 to R144): the opcode at PC, decode, then the operand bytes at
PC + 1 and PC + 2 through the memory port, without wrap. -/

namespace Sys2Proof.Machine

/-- The first three steps of the engine: the opcode, its table entry, and as many operand bytes as the entry asks for. An
unimplemented opcode asks for none (41_engine_loop.md R142 to R144, R151). -/
def fetch (s : State) : Except HaltReason Instr :=
  (memRead s.pc.toNat s).bind (fun op =>
    match decodeOpcode op with
    | .f0 i => .ok i
    | .f1 k => (memRead (s.pc.toNat + 1) s).map k
    | .f2 k =>
      (memRead (s.pc.toNat + 1) s).bind (fun b1 =>
        (memRead (s.pc.toNat + 2) s).map (fun b2 => k (joinBytes b2 b1))))

/-- The bytes at the program counter: up to three, the longest instruction, as far as the address space reaches. Statements
decode them (00_scope.md R6). -/
def codeBytes (s : State) : List Byte :=
  ((List.range 3).filter (fun k => s.pc.toNat + k ≤ Config.maxAddress)).map
    (fun k => Memory.get s.mem (s.pc.toNat + k))

/-- Write bytes at consecutive addresses from `addr` on (70_reset_and_hazards.md R341). -/
def storeBytes (m : Memory) (addr : Nat) (bytes : List Byte) : Memory :=
  match bytes with
  | [] => m
  | v :: rest => storeBytes (Memory.set m addr v) (addr + 1) rest

/-- The bytes of the instruction a table word holds, and no byte after them. -/
def instructionBytes (nbits w : Nat) : List Byte :=
  match tableBytes nbits w with
  | [] => []
  | op :: rest => op :: rest.take (decodeOpcode op).operandLength

end Sys2Proof.Machine
end

