-- ==== Sys2Proof/Machine/Step.lean ====
section
/-! DEFINITION. The step of the engine (41_engine_loop.md R151), and the placing of one instruction where the next step fetches. -/

namespace Sys2Proof.Machine

/-- One step: defined only in Fetching; an operand fetch past 0xFFFF raises its fault, otherwise the fetched instruction
runs (41_engine_loop.md R141, R142 to R151). -/
def step (s : State) : Host.Outcome State Fault Refusal :=
  match s.run with
  | .halted reason => .fault (.engineHalted reason)
  | .fetching =>
    match fetch s with
    | .error f => .next (raise f s)
    | .ok i => exec i s

/-- `s` with one instruction's bytes stored at PC and the engine Fetching, so that the next step runs it. Where the
instruction would pass 0xFFFF it is stored at 0x0000 and PC set there, as a `load` at 0x0000 would (log entry 7). -/
def State.withFetchWord (s : State) (nbits w : Nat) : State :=
  let bytes := instructionBytes nbits w
  let base := if s.pc.toNat + bytes.length ≤ Config.maxAddress + 1 then s.pc else 0x0000#16
  setRun .fetching (setPc base (setMem (storeBytes s.mem base.toNat bytes) s))

end Sys2Proof.Machine
end

