-- ==== Sys2Proof/Machine/Footprint.lean ====
section
/-! DEFINITION. What each instruction declares that it writes, one arm per constructor, as the spec's tables list it: the
declared flags (40_flag_policy.md R127), the general registers (10_state.md R32), SP (R34), the cells stored to, and the
operand length (30_encoding.md R91). No meaning reads these tables: statements hold the meanings against them. -/

namespace Sys2Proof.Machine

/-- The flags an instruction declares and recomputes (40_flag_policy.md R127; column `flags_written` of
`spec/opcode_table.json`). -/
def declaredFlags (i : Instr) : List Flag :=
  match i with
  | .movBB => []
  | .movBC => []
  | .movBD => []
  | .movBE => []
  | .movBH => []
  | .movBL => []
  | .movBA => []
  | .movCB => []
  | .movCC => []
  | .movCD => []
  | .movCE => []
  | .movCH => []
  | .movCL => []
  | .movCA => []
  | .movDB => []
  | .movDC => []
  | .movDD => []
  | .movDE => []
  | .movDH => []
  | .movDL => []
  | .movDA => []
  | .movEB => []
  | .movEC => []
  | .movED => []
  | .movEE => []
  | .movEH => []
  | .movEL => []
  | .movEA => []
  | .movHB => []
  | .movHC => []
  | .movHD => []
  | .movHE => []
  | .movHH => []
  | .movHL => []
  | .movHA => []
  | .movLB => []
  | .movLC => []
  | .movLD => []
  | .movLE => []
  | .movLH => []
  | .movLL => []
  | .movLA => []
  | .movAB => []
  | .movAC => []
  | .movAD => []
  | .movAE => []
  | .movAH => []
  | .movAL => []
  | .movAA => []
  | .movBM => []
  | .movCM => []
  | .movDM => []
  | .movEM => []
  | .movHM => []
  | .movLM => []
  | .movAM => []
  | .movMB => []
  | .movMC => []
  | .movMD => []
  | .movME => []
  | .movMH => []
  | .movML => []
  | .movMA => []
  | .mviB _ => []
  | .mviC _ => []
  | .mviD _ => []
  | .mviE _ => []
  | .mviH _ => []
  | .mviL _ => []
  | .mviA _ => []
  | .mviM _ => []
  | .lxiB _ => []
  | .lxiD _ => []
  | .lxiH _ => []
  | .lxiSP _ => []
  | .staxB => []
  | .staxD => []
  | .ldaxB => []
  | .ldaxD => []
  | .shld _ => []
  | .lhld _ => []
  | .sta _ => []
  | .lda _ => []
  | .inrB => [.z, .s, .p, .ac]
  | .inrC => [.z, .s, .p, .ac]
  | .inrD => [.z, .s, .p, .ac]
  | .inrE => [.z, .s, .p, .ac]
  | .inrH => [.z, .s, .p, .ac]
  | .inrL => [.z, .s, .p, .ac]
  | .inrA => [.z, .s, .p, .ac]
  | .inrM => [.z, .s, .p, .ac]
  | .dcrB => [.z, .s, .p, .ac]
  | .dcrC => [.z, .s, .p, .ac]
  | .dcrD => [.z, .s, .p, .ac]
  | .dcrE => [.z, .s, .p, .ac]
  | .dcrH => [.z, .s, .p, .ac]
  | .dcrL => [.z, .s, .p, .ac]
  | .dcrA => [.z, .s, .p, .ac]
  | .dcrM => [.z, .s, .p, .ac]
  | .inxB => []
  | .inxD => []
  | .inxH => []
  | .inxSP => []
  | .dcxB => []
  | .dcxD => []
  | .dcxH => []
  | .dcxSP => []
  | .addB => [.z, .s, .p, .ac, .cy]
  | .addC => [.z, .s, .p, .ac, .cy]
  | .addD => [.z, .s, .p, .ac, .cy]
  | .addE => [.z, .s, .p, .ac, .cy]
  | .addH => [.z, .s, .p, .ac, .cy]
  | .addL => [.z, .s, .p, .ac, .cy]
  | .addA => [.z, .s, .p, .ac, .cy]
  | .addM => [.z, .s, .p, .ac, .cy]
  | .adcB => [.z, .s, .p, .ac, .cy]
  | .adcC => [.z, .s, .p, .ac, .cy]
  | .adcD => [.z, .s, .p, .ac, .cy]
  | .adcE => [.z, .s, .p, .ac, .cy]
  | .adcH => [.z, .s, .p, .ac, .cy]
  | .adcL => [.z, .s, .p, .ac, .cy]
  | .adcA => [.z, .s, .p, .ac, .cy]
  | .adcM => [.z, .s, .p, .ac, .cy]
  | .subB => [.z, .s, .p, .ac, .cy]
  | .subC => [.z, .s, .p, .ac, .cy]
  | .subD => [.z, .s, .p, .ac, .cy]
  | .subE => [.z, .s, .p, .ac, .cy]
  | .subH => [.z, .s, .p, .ac, .cy]
  | .subL => [.z, .s, .p, .ac, .cy]
  | .subA => [.z, .s, .p, .ac, .cy]
  | .subM => [.z, .s, .p, .ac, .cy]
  | .sbbB => [.z, .s, .p, .ac, .cy]
  | .sbbC => [.z, .s, .p, .ac, .cy]
  | .sbbD => [.z, .s, .p, .ac, .cy]
  | .sbbE => [.z, .s, .p, .ac, .cy]
  | .sbbH => [.z, .s, .p, .ac, .cy]
  | .sbbL => [.z, .s, .p, .ac, .cy]
  | .sbbA => [.z, .s, .p, .ac, .cy]
  | .sbbM => [.z, .s, .p, .ac, .cy]
  | .dadB => [.cy]
  | .dadD => [.cy]
  | .dadH => [.cy]
  | .dadSP => [.cy]
  | .daa => [.z, .s, .p, .ac, .cy]
  | .rlc => [.cy]
  | .rrc => [.cy]
  | .ral => [.cy]
  | .rar => [.cy]
  | .cma => []
  | .stc => [.cy]
  | .cmc => [.cy]
  | .nop => []
  | .hlt => []
  | .unimplemented _ => []

/-- The general registers an instruction may write (10_state.md R32). -/
def writtenRegs (i : Instr) : List Reg :=
  match i with
  | .movBB => [.b]
  | .movBC => [.b]
  | .movBD => [.b]
  | .movBE => [.b]
  | .movBH => [.b]
  | .movBL => [.b]
  | .movBA => [.b]
  | .movCB => [.c]
  | .movCC => [.c]
  | .movCD => [.c]
  | .movCE => [.c]
  | .movCH => [.c]
  | .movCL => [.c]
  | .movCA => [.c]
  | .movDB => [.d]
  | .movDC => [.d]
  | .movDD => [.d]
  | .movDE => [.d]
  | .movDH => [.d]
  | .movDL => [.d]
  | .movDA => [.d]
  | .movEB => [.e]
  | .movEC => [.e]
  | .movED => [.e]
  | .movEE => [.e]
  | .movEH => [.e]
  | .movEL => [.e]
  | .movEA => [.e]
  | .movHB => [.h]
  | .movHC => [.h]
  | .movHD => [.h]
  | .movHE => [.h]
  | .movHH => [.h]
  | .movHL => [.h]
  | .movHA => [.h]
  | .movLB => [.l]
  | .movLC => [.l]
  | .movLD => [.l]
  | .movLE => [.l]
  | .movLH => [.l]
  | .movLL => [.l]
  | .movLA => [.l]
  | .movAB => [.a]
  | .movAC => [.a]
  | .movAD => [.a]
  | .movAE => [.a]
  | .movAH => [.a]
  | .movAL => [.a]
  | .movAA => [.a]
  | .movBM => [.b]
  | .movCM => [.c]
  | .movDM => [.d]
  | .movEM => [.e]
  | .movHM => [.h]
  | .movLM => [.l]
  | .movAM => [.a]
  | .movMB => []
  | .movMC => []
  | .movMD => []
  | .movME => []
  | .movMH => []
  | .movML => []
  | .movMA => []
  | .mviB _ => [.b]
  | .mviC _ => [.c]
  | .mviD _ => [.d]
  | .mviE _ => [.e]
  | .mviH _ => [.h]
  | .mviL _ => [.l]
  | .mviA _ => [.a]
  | .mviM _ => []
  | .lxiB _ => [.b, .c]
  | .lxiD _ => [.d, .e]
  | .lxiH _ => [.h, .l]
  | .lxiSP _ => []
  | .staxB => []
  | .staxD => []
  | .ldaxB => [.a]
  | .ldaxD => [.a]
  | .shld _ => []
  | .lhld _ => [.h, .l]
  | .sta _ => []
  | .lda _ => [.a]
  | .inrB => [.b]
  | .inrC => [.c]
  | .inrD => [.d]
  | .inrE => [.e]
  | .inrH => [.h]
  | .inrL => [.l]
  | .inrA => [.a]
  | .inrM => []
  | .dcrB => [.b]
  | .dcrC => [.c]
  | .dcrD => [.d]
  | .dcrE => [.e]
  | .dcrH => [.h]
  | .dcrL => [.l]
  | .dcrA => [.a]
  | .dcrM => []
  | .inxB => [.b, .c]
  | .inxD => [.d, .e]
  | .inxH => [.h, .l]
  | .inxSP => []
  | .dcxB => [.b, .c]
  | .dcxD => [.d, .e]
  | .dcxH => [.h, .l]
  | .dcxSP => []
  | .addB => [.a]
  | .addC => [.a]
  | .addD => [.a]
  | .addE => [.a]
  | .addH => [.a]
  | .addL => [.a]
  | .addA => [.a]
  | .addM => [.a]
  | .adcB => [.a]
  | .adcC => [.a]
  | .adcD => [.a]
  | .adcE => [.a]
  | .adcH => [.a]
  | .adcL => [.a]
  | .adcA => [.a]
  | .adcM => [.a]
  | .subB => [.a]
  | .subC => [.a]
  | .subD => [.a]
  | .subE => [.a]
  | .subH => [.a]
  | .subL => [.a]
  | .subA => [.a]
  | .subM => [.a]
  | .sbbB => [.a]
  | .sbbC => [.a]
  | .sbbD => [.a]
  | .sbbE => [.a]
  | .sbbH => [.a]
  | .sbbL => [.a]
  | .sbbA => [.a]
  | .sbbM => [.a]
  | .dadB => [.h, .l]
  | .dadD => [.h, .l]
  | .dadH => [.h, .l]
  | .dadSP => [.h, .l]
  | .daa => [.a]
  | .rlc => [.a]
  | .rrc => [.a]
  | .ral => [.a]
  | .rar => [.a]
  | .cma => [.a]
  | .stc => []
  | .cmc => []
  | .nop => []
  | .hlt => []
  | .unimplemented _ => []

/-- Whether an instruction writes SP: LXI SP, INX SP and DCX SP only (10_state.md R34). -/
def writesSp (i : Instr) : Bool :=
  match i with
  | .lxiSP _ => true
  | .inxSP => true
  | .dcxSP => true
  | _ => false

/-- Whether an instruction reads SP: INX SP, DCX SP and DAD SP only (10_state.md R34). -/
def readsSp (i : Instr) : Bool :=
  match i with
  | .inxSP => true
  | .dcxSP => true
  | .dadSP => true
  | _ => false

/-- The addresses an instruction stores to, computed from the state it starts in (30_encoding.md R96; 42_data_move.md R172,
R174; 43_load_store.md R191, R193, R195; 44_inc_dec.md R211, R213). -/
def storedAddrs (i : Instr) (s : State) : List Nat :=
  match i with
  | .movBB => []
  | .movBC => []
  | .movBD => []
  | .movBE => []
  | .movBH => []
  | .movBL => []
  | .movBA => []
  | .movCB => []
  | .movCC => []
  | .movCD => []
  | .movCE => []
  | .movCH => []
  | .movCL => []
  | .movCA => []
  | .movDB => []
  | .movDC => []
  | .movDD => []
  | .movDE => []
  | .movDH => []
  | .movDL => []
  | .movDA => []
  | .movEB => []
  | .movEC => []
  | .movED => []
  | .movEE => []
  | .movEH => []
  | .movEL => []
  | .movEA => []
  | .movHB => []
  | .movHC => []
  | .movHD => []
  | .movHE => []
  | .movHH => []
  | .movHL => []
  | .movHA => []
  | .movLB => []
  | .movLC => []
  | .movLD => []
  | .movLE => []
  | .movLH => []
  | .movLL => []
  | .movLA => []
  | .movAB => []
  | .movAC => []
  | .movAD => []
  | .movAE => []
  | .movAH => []
  | .movAL => []
  | .movAA => []
  | .movBM => []
  | .movCM => []
  | .movDM => []
  | .movEM => []
  | .movHM => []
  | .movLM => []
  | .movAM => []
  | .movMB => [hlAddr s]
  | .movMC => [hlAddr s]
  | .movMD => [hlAddr s]
  | .movME => [hlAddr s]
  | .movMH => [hlAddr s]
  | .movML => [hlAddr s]
  | .movMA => [hlAddr s]
  | .mviB _ => []
  | .mviC _ => []
  | .mviD _ => []
  | .mviE _ => []
  | .mviH _ => []
  | .mviL _ => []
  | .mviA _ => []
  | .mviM _ => [hlAddr s]
  | .lxiB _ => []
  | .lxiD _ => []
  | .lxiH _ => []
  | .lxiSP _ => []
  | .staxB => [(getPair .bc s).toNat]
  | .staxD => [(getPair .de s).toNat]
  | .ldaxB => []
  | .ldaxD => []
  | .shld a16 => [a16.toNat, a16.toNat + 1]
  | .lhld _ => []
  | .sta a16 => [a16.toNat]
  | .lda _ => []
  | .inrB => []
  | .inrC => []
  | .inrD => []
  | .inrE => []
  | .inrH => []
  | .inrL => []
  | .inrA => []
  | .inrM => [hlAddr s]
  | .dcrB => []
  | .dcrC => []
  | .dcrD => []
  | .dcrE => []
  | .dcrH => []
  | .dcrL => []
  | .dcrA => []
  | .dcrM => [hlAddr s]
  | .inxB => []
  | .inxD => []
  | .inxH => []
  | .inxSP => []
  | .dcxB => []
  | .dcxD => []
  | .dcxH => []
  | .dcxSP => []
  | .addB => []
  | .addC => []
  | .addD => []
  | .addE => []
  | .addH => []
  | .addL => []
  | .addA => []
  | .addM => []
  | .adcB => []
  | .adcC => []
  | .adcD => []
  | .adcE => []
  | .adcH => []
  | .adcL => []
  | .adcA => []
  | .adcM => []
  | .subB => []
  | .subC => []
  | .subD => []
  | .subE => []
  | .subH => []
  | .subL => []
  | .subA => []
  | .subM => []
  | .sbbB => []
  | .sbbC => []
  | .sbbD => []
  | .sbbE => []
  | .sbbH => []
  | .sbbL => []
  | .sbbA => []
  | .sbbM => []
  | .dadB => []
  | .dadD => []
  | .dadH => []
  | .dadSP => []
  | .daa => []
  | .rlc => []
  | .rrc => []
  | .ral => []
  | .rar => []
  | .cma => []
  | .stc => []
  | .cmc => []
  | .nop => []
  | .hlt => []
  | .unimplemented _ => []

/-- The number of operand bytes (30_encoding.md R91; column `length` of `spec/opcode_table.json`, less one). -/
def operandLength (i : Instr) : Nat :=
  match i with
  | .movBB => 0
  | .movBC => 0
  | .movBD => 0
  | .movBE => 0
  | .movBH => 0
  | .movBL => 0
  | .movBA => 0
  | .movCB => 0
  | .movCC => 0
  | .movCD => 0
  | .movCE => 0
  | .movCH => 0
  | .movCL => 0
  | .movCA => 0
  | .movDB => 0
  | .movDC => 0
  | .movDD => 0
  | .movDE => 0
  | .movDH => 0
  | .movDL => 0
  | .movDA => 0
  | .movEB => 0
  | .movEC => 0
  | .movED => 0
  | .movEE => 0
  | .movEH => 0
  | .movEL => 0
  | .movEA => 0
  | .movHB => 0
  | .movHC => 0
  | .movHD => 0
  | .movHE => 0
  | .movHH => 0
  | .movHL => 0
  | .movHA => 0
  | .movLB => 0
  | .movLC => 0
  | .movLD => 0
  | .movLE => 0
  | .movLH => 0
  | .movLL => 0
  | .movLA => 0
  | .movAB => 0
  | .movAC => 0
  | .movAD => 0
  | .movAE => 0
  | .movAH => 0
  | .movAL => 0
  | .movAA => 0
  | .movBM => 0
  | .movCM => 0
  | .movDM => 0
  | .movEM => 0
  | .movHM => 0
  | .movLM => 0
  | .movAM => 0
  | .movMB => 0
  | .movMC => 0
  | .movMD => 0
  | .movME => 0
  | .movMH => 0
  | .movML => 0
  | .movMA => 0
  | .mviB _ => 1
  | .mviC _ => 1
  | .mviD _ => 1
  | .mviE _ => 1
  | .mviH _ => 1
  | .mviL _ => 1
  | .mviA _ => 1
  | .mviM _ => 1
  | .lxiB _ => 2
  | .lxiD _ => 2
  | .lxiH _ => 2
  | .lxiSP _ => 2
  | .staxB => 0
  | .staxD => 0
  | .ldaxB => 0
  | .ldaxD => 0
  | .shld _ => 2
  | .lhld _ => 2
  | .sta _ => 2
  | .lda _ => 2
  | .inrB => 0
  | .inrC => 0
  | .inrD => 0
  | .inrE => 0
  | .inrH => 0
  | .inrL => 0
  | .inrA => 0
  | .inrM => 0
  | .dcrB => 0
  | .dcrC => 0
  | .dcrD => 0
  | .dcrE => 0
  | .dcrH => 0
  | .dcrL => 0
  | .dcrA => 0
  | .dcrM => 0
  | .inxB => 0
  | .inxD => 0
  | .inxH => 0
  | .inxSP => 0
  | .dcxB => 0
  | .dcxD => 0
  | .dcxH => 0
  | .dcxSP => 0
  | .addB => 0
  | .addC => 0
  | .addD => 0
  | .addE => 0
  | .addH => 0
  | .addL => 0
  | .addA => 0
  | .addM => 0
  | .adcB => 0
  | .adcC => 0
  | .adcD => 0
  | .adcE => 0
  | .adcH => 0
  | .adcL => 0
  | .adcA => 0
  | .adcM => 0
  | .subB => 0
  | .subC => 0
  | .subD => 0
  | .subE => 0
  | .subH => 0
  | .subL => 0
  | .subA => 0
  | .subM => 0
  | .sbbB => 0
  | .sbbC => 0
  | .sbbD => 0
  | .sbbE => 0
  | .sbbH => 0
  | .sbbL => 0
  | .sbbA => 0
  | .sbbM => 0
  | .dadB => 0
  | .dadD => 0
  | .dadH => 0
  | .dadSP => 0
  | .daa => 0
  | .rlc => 0
  | .rrc => 0
  | .ral => 0
  | .rar => 0
  | .cma => 0
  | .stc => 0
  | .cmc => 0
  | .nop => 0
  | .hlt => 0
  | .unimplemented _ => 0

end Sys2Proof.Machine
end

