-- ==== Sys2Proof/Machine/Session.lean ====
section
/-! DEFINITION. What the host does with a session (60_exceptions.md R315, R316): load, run with a budget, read how the run ended, and
the exit code. Creating a session is `State.create`. -/

namespace Sys2Proof.Machine

/-- The result of `load`: the loaded session, or ProgramTooLarge with its record (10_state.md R40; 60_exceptions.md R303). -/
inductive LoadResult
  | loaded (s : State)
  | programTooLarge (start len : Nat)
  deriving DecidableEq, Repr

/-- `load(bytes, start_address)`: ProgramTooLarge with nothing written, or the bytes at consecutive addresses and
`PC <- start_address`; nothing else is touched (70_reset_and_hazards.md R341, R342). -/
def load (limit : LoadLimit) (bytes : List Byte) (start : Word) (s : State) : LoadResult :=
  if start.toNat + bytes.length > Config.loadBound limit then .programTooLarge start.toNat bytes.length
  else .loaded (setPc start (setMem (storeBytes s.mem start.toNat bytes) s))

/-- At most `budget` steps, stopping where no step is left: the host may stop the loop between instructions
(41_engine_loop.md R152). -/
def runFor (budget : Nat) (s : State) : State :=
  match budget with
  | 0 => s
  | k + 1 =>
    match step s with
    | .next t => runFor k t
    | .fault _ => s
    | .refused _ => s

/-- How a run ended (41_engine_loop.md R153). -/
inductive RunEnd
  | normal
  | abnormal (reason : HaltReason)
  | notEnded
  deriving DecidableEq, Repr

/-- The end of a run, read from the engine state (41_engine_loop.md R153). -/
def runEnd (s : State) : RunEnd :=
  match s.run with
  | .fetching => .notEnded
  | .halted .hlt => .normal
  | .halted (.memoryFault addr) => .abnormal (.memoryFault addr)
  | .halted (.unimplementedOpcode pc op) => .abnormal (.unimplementedOpcode pc op)

/-- The CLI's exit code: 0 on a normal halt, `EXIT_FAILURE_CODE` on every fault, none while the run has not ended
(60_exceptions.md R316). -/
def exitCode (s : State) : Option Nat :=
  match runEnd s with
  | .normal => some 0
  | .abnormal _ => some Config.exitFailureCode
  | .notEnded => none

/-- The CLI's exit code after `load`: `EXIT_FAILURE_CODE` on ProgramTooLarge, otherwise that of the state the session's run
reached (60_exceptions.md R316). -/
def loadExitCode (r : LoadResult) (budget : Nat) : Option Nat :=
  match r with
  | .programTooLarge _ _ => some Config.exitFailureCode
  | .loaded s => exitCode (runFor budget s)

end Sys2Proof.Machine
end

