-- ==== Sys2Proof/WellFormed.lean ====
section
/-! DEFINITION. When a term of `Instr` is an instruction of this core. The operand widths are in the types, so the one check
is that `unimplemented` carries one of the 103 opcodes with no table entry (30_encoding.md R100). -/

namespace Sys2Proof

/-- The 103 unimplemented opcode values: 0x08, 0x10, 0x18, 0x20, 0x28, 0x30, 0x38, 0xA0-0xBF and 0xC0-0xFF
(30_encoding.md R100; 48_control.md R282). -/
def unimplementedOpcode (op : Byte) : Bool :=
  op == 0x08#8 || op == 0x10#8 || op == 0x18#8 || op == 0x20#8 || op == 0x28#8 || op == 0x30#8 || op == 0x38#8
    || decide (0xA0 ≤ op.toNat)

/-- Whether a term of `Instr` is an instruction of this core. -/
def Instr.wf (i : Instr) : Bool :=
  match i with
  | .unimplemented op => unimplementedOpcode op
  | _ => true

end Sys2Proof
end

