-- ==== Sys2Proof/Safety.lean ====
section
/-! DEFINITION. The terms claims are stated in: where an instruction's bytes fit, how it completes, what it leaves unchanged,
where it halts, the result flags, and the invariant of the machine. -/

namespace Sys2Proof.Machine

/-! ### Completion and exceptions -/

/-- The address after an instruction of operand length `n` at PC is inside the address space, so that the engine's PC advance
does not overflow (41_engine_loop.md R147, R148). -/
def Fits (n : Nat) (s : State) : Prop := s.pc.toNat + 1 + n ≤ 0xFFFF

/-- From `s` to `t` an instruction of operand length `n` completed: the engine state is what it was, and PC advanced by
`1 + n` (41_engine_loop.md R147). -/
def Completed (n : Nat) (s t : State) : Prop := t.run = s.run ∧ t.pc.toNat = s.pc.toNat + 1 + n

/-- "The engine's PC overflow": with its last byte at 0xFFFF the instruction halts the engine with MemoryFault(0x10000), PC
at its opcode (41_engine_loop.md R148). -/
def PcOverflowHalts (n : Nat) (i : Instr) : Prop :=
  ∀ s : State, s.pc.toNat + 1 + n = 0x10000 →
    ∃ t, exec i s = .next t ∧ t.run = .halted (.memoryFault 0x10000) ∧ t.pc = s.pc

/-- The operand fetch fault: an opcode of operand length `n` whose last operand byte would lie above 0xFFFF halts the engine
with MemoryFault(0x10000), and nothing else changes (41_engine_loop.md R144, R150; 92_eei_decisions.md D7, D10; log entry 8). -/
def OperandFetchHalts (n : Nat) (op : Byte) : Prop :=
  ∀ s : State, s.run = .fetching → memRead s.pc.toNat s = .ok op → 0xFFFF < s.pc.toNat + n →
    step s = .next { s with run := .halted (.memoryFault 0x10000) }

/-! ### Frames -/

/-- From `s` to `t` nothing but PC and the engine state changed outside the listed registers, SP if named, the listed flags
and the listed addresses. Memory is compared through the read of one byte. -/
def UnchangedExcept (regs : List Reg) (sp : Bool) (flags : List Flag) (stored : List Nat) (s t : State) : Prop :=
  (∀ r, r ∉ regs → getReg r t = getReg r s) ∧
  (sp = false → t.sp = s.sp) ∧
  (∀ f, f ∉ flags → getFlag f t = getFlag f s) ∧
  (∀ addr, addr ∉ stored → memRead addr t = memRead addr s) ∧
  t.subAcRule = s.subAcRule ∧ t.draws = s.draws

/-! ### Flags -/

/-- Zero, Sign and Parity of `t` are those of the 8-bit result `v` (40_flag_policy.md R121). -/
def ZspOf (v : Byte) (t : State) : Prop :=
  t.flags.z = decide (v.toNat = 0) ∧ t.flags.s = decide (0x80 ≤ v.toNat) ∧
  t.flags.p = decide ((List.range 8).countP (fun k => v.getLsbD k) % 2 = 0)

/-- The state with Z, S and P erased: what is left is all a program can read (10_state.md R38). -/
def eraseZsp (s : State) : State := { s with flags := { s.flags with z := false, s := false, p := false } }

/-- The state with PC and the engine state erased. -/
def erasePcRun (s : State) : State := { s with pc := 0x0000#16, run := .fetching }

/-! ### The invariant -/

/-- The invariant of the machine: memory is canonical, a MemoryFault's record is the address 0x10000 (20_memory.md R68), and
an UnimplementedOpcode's record is the PC and the opcode that stands there (10_state.md R40; 60_exceptions.md R302). -/
def Inv (s : State) : Prop :=
  Memory.wf s.mem ∧
  (∀ addr, s.run = .halted (.memoryFault addr) → addr = 0x10000) ∧
  (∀ pc op, s.run = .halted (.unimplementedOpcode pc op) →
    pc = s.pc ∧ unimplementedOpcode op = true ∧ memRead s.pc.toNat s = .ok op)

/-- A safe run within a budget: it ended at HLT (41_engine_loop.md R153). -/
def EndsNormally (budget : Nat) (s : State) : Prop := runEnd (runFor budget s) = .normal

end Sys2Proof.Machine
end

