-- ==== Sys2Proof/Certificates/Slice0/Obligations.lean ====
section
/-! DEFINITION. The statements for the provers, from the spec's numbered rules. -/

open Sys2Proof Sys2Proof.Machine

/-- Decoding the encoding of any well-formed instruction gives it back. Rests on 30_encoding.md sections 1 to 4;
opcode_table.json. The opcode bytes are normative general knowledge of the spec (93_implementation_defined.md G1). -/
def Obligations.DecodeOfEncodeIsTheInstruction : Prop :=
  ∀ (i : Instr) (rest : List Byte), i.wf = true → decode (encode i ++ rest) = .ok (i, rest)

/-- Whatever decodes is well formed and encodes back to the bytes it was read from. Rests on 30_encoding.md sections 1 to
4; opcode_table.json. -/
def Obligations.EncodeOfDecodeIsTheBytes : Prop :=
  ∀ (bytes rest : List Byte) (i : Instr), decode bytes = .ok (i, rest) → i.wf = true ∧ encode i ++ rest = bytes

/-- One word of each family, written out from the spec, decodes to its instruction. Rests on 30_encoding.md section 3 (the
opcode map); 30_encoding.md section 4. -/
def Obligations.SampleWordsDecodeByFamily : Prop :=
  decode [0b00111110#8, 0x42#8] = .ok (.mviA 0x42#8, []) ∧
  decode [0b01110111#8] = .ok (.movMA, []) ∧
  decode [0b00000001#8, 0x03#8, 0x05#8] = .ok (.lxiB 0x0503#16, []) ∧
  decode [0b00110010#8, 0x34#8, 0x12#8] = .ok (.sta 0x1234#16, []) ∧
  decode [0b00111100#8] = .ok (.inrA, []) ∧
  decode [0b00111011#8] = .ok (.dcxSP, []) ∧
  decode [0b10011101#8] = .ok (.sbbL, []) ∧
  decode [0b00111001#8] = .ok (.dadSP, []) ∧
  decode [0b00100111#8] = .ok (.daa, []) ∧
  decode [0b00011111#8] = .ok (.rar, []) ∧
  decode [0b00111111#8] = .ok (.cmc, []) ∧
  decode [0b01110110#8] = .ok (.hlt, []) ∧
  decode [0b11000011#8] = .ok (.unimplemented 0xC3#8, [])

/-- The opcode byte alone fixes how many bytes the instruction takes. Rests on 30_encoding.md section 1 (lengths and
formats). -/
def Obligations.LengthIsFixedByTheOpcode : Prop :=
  ∀ (op : Byte) (rest : List Byte),
    (decodeOpcode op).operandLength ≤ 2 ∧
    ((∃ x, decode (op :: rest) = .ok x) ↔ (decodeOpcode op).operandLength ≤ rest.length) ∧
    (∀ i after, decode (op :: rest) = .ok (i, after) →
      Machine.operandLength i = (decodeOpcode op).operandLength ∧
      after = rest.drop (decodeOpcode op).operandLength)

/-- Exactly the 103 listed opcode values decode to Unimplemented. Rests on 30_encoding.md section 5; 92_eei_decisions.md
D1. -/
def Obligations.UnimplementedOpcodesAreTheListedOnes : Prop :=
  (∀ (b op : Byte) (rest : List Byte),
    decode (b :: rest) = .ok (.unimplemented op, rest) ↔
      b = op ∧ (op.toNat ∈ [0x08, 0x10, 0x18, 0x20, 0x28, 0x30, 0x38] ∨ (0xA0 ≤ op.toNat ∧ op.toNat ≤ 0xBF) ∨
        (0xC0 ≤ op.toNat ∧ op.toNat ≤ 0xFF))) ∧
  ((List.range 256).filter (fun k => unimplementedOpcode (BitVec.ofNat 8 k))).length = 103

/-- A step in Fetching is exec of the instruction the bytes at PC decode to. Rests on 41_engine_loop.md section 2 (One
step); 20_memory.md section 5. -/
def Obligations.StepRunsTheDecodedInstruction : Prop :=
  ∀ (s : State) (i : Instr) (rest : List Byte), s.run = .fetching → decode (codeBytes s) = .ok (i, rest) →
    i.wf = true ∧ step s = exec i s

/-- An operand byte above 0xFFFF raises MemoryFault(0x10000) and commits nothing. Rests on 41_engine_loop.md section 2
(operand fetch); 92_eei_decisions.md D7, D10. It states R150's own definition of a faulted state; a claim about a
program relies on the fault record alone (log entry 8). -/
def Obligations.OperandFetchPastTopHalts : Prop :=
  ∀ op : Byte, OperandFetchHalts (decodeOpcode op).operandLength op

/-- A Halted engine has no step, and HLT, MemoryFault and UnimplementedOpcode are the ways into Halted. Formalises R141.
That the address is 0x10000 is said by R301 and 20_memory.md R68. -/
def Obligations.HaltedEngineHasNoStep : Prop :=
  (∀ (s : State) (reason : HaltReason), s.run = .halted reason → step s = .fault (.engineHalted reason)) ∧
  (∀ (s t : State) (reason : HaltReason), step s = .next t → t.run = .halted reason →
    (memRead s.pc.toNat s = .ok 0x76#8 ∧ reason = .hlt) ∨ reason = .memoryFault 0x10000 ∨
    (∃ op, memRead s.pc.toNat s = .ok op ∧ unimplementedOpcode op = true ∧ reason = .unimplementedOpcode s.pc op))

/-- From Fetching every step answers a next state: PC moves forward by 1 to 3, or the engine halts. Rests on
41_engine_loop.md section 2 (One step); 60_exceptions.md section 1. -/
def Obligations.FetchingEngineAlwaysSteps : Prop :=
  ∀ s : State, s.run = .fetching → ∃ t, step s = .next t ∧
    ((t.run = .fetching ∧ s.pc.toNat + 1 ≤ t.pc.toNat ∧ t.pc.toNat ≤ s.pc.toNat + 3) ∨ ∃ reason, t.run = .halted reason)

/-- PC advances by 1 plus the operand length of the executed instruction. Formalises R147. -/
def Obligations.PcAdvancesByInstructionLength : Prop :=
  ∀ (i : Instr) (s : State), i ≠ .hlt → (∀ op, i ≠ .unimplemented op) → i ≠ .shld 0xFFFF#16 → i ≠ .lhld 0xFFFF#16 →
    s.pc.toNat + 1 + operandLength i ≤ 0xFFFF →
    ∃ t, exec i s = .next t ∧ t.pc.toNat = s.pc.toNat + 1 + operandLength i ∧ t.run = s.run

/-- An instruction's effect does not depend on PC; past 0xFFFF the effects stay and the engine halts. Rests on
41_engine_loop.md section 2 (PC overflow); 92_eei_decisions.md D8; 10_state.md section 4. It states R150's own
definition of a faulted state; a claim about a program relies on the fault record alone (log entry 8). -/
def Obligations.PcOverflowKeepsTheEffects : Prop :=
  ∀ (i : Instr) (s : State) (pc' : Word), i ≠ .hlt → (∀ op, i ≠ .unimplemented op) →
    (∃ t t', exec i s = .next t ∧ exec i { s with pc := pc' } = .next t' ∧ erasePcRun t = erasePcRun t') ∧
    (0xFFFF < s.pc.toNat + 1 + operandLength i → i ≠ .shld 0xFFFF#16 → i ≠ .lhld 0xFFFF#16 →
      ∃ t, exec i s = .next t ∧ t.pc = s.pc ∧ t.run = .halted (.memoryFault (s.pc.toNat + 1 + operandLength i)))

/-- An unimplemented opcode halts the engine with UnimplementedOpcode(PC, op) and changes nothing else. Rests on
48_control.md (Unimplemented opcode); 92_eei_decisions.md D1, D10; 60_exceptions.md section 2. It states R150's own
definition of a faulted state; a claim about a program relies on the fault record alone (log entry 8). -/
def Obligations.UnimplementedOpcodeHalts : Prop :=
  ∀ (s : State) (op : Byte),
    exec (.unimplemented op) s = .next { s with run := .halted (.unimplementedOpcode s.pc op) } ∧
    (s.run = .fetching → memRead s.pc.toNat s = .ok op → unimplementedOpcode op = true →
      step s = .next { s with run := .halted (.unimplementedOpcode s.pc op) })

/-- HLT halts normally, with PC after it; at 0xFFFF it still halts normally and PC is free. Rests on 48_control.md (HLT);
41_engine_loop.md section 2 (halt); 92_eei_decisions.md D9. -/
def Obligations.HltHaltsTheEngine : Prop :=
  encode .hlt = [0x76#8] ∧
  (∀ s : State, s.pc.toNat + 1 ≤ 0xFFFF → ∃ t, exec .hlt s = .next t ∧ t.run = .halted .hlt ∧
    t.pc.toNat = s.pc.toNat + 1 ∧ UnchangedExcept [] false [] [] s t) ∧
  (∀ s : State, s.pc = 0xFFFF#16 → ∃ t, exec .hlt s = .next t ∧ t.run = .halted .hlt ∧
    UnchangedExcept [] false [] [] s { t with draws := s.draws })

/-- Every run reaches Halted within at most 65536 steps. Rests on 41_engine_loop.md section 3 (The run). -/
def Obligations.EveryRunReachesHalted : Prop :=
  ∀ s : State, s.run = .fetching → ∃ reason, (runFor 65536 s).run = .halted reason

/-- Every step keeps memory canonical and the fault record true. Rests on 10_state.md sections 6 and 8; 20_memory.md
sections 2 and 3; 60_exceptions.md section 1. -/
def Obligations.EveryStepKeepsTheInvariant : Prop :=
  ∀ s t : State, Inv s → step s = .next t → Inv t

/-- The invariant holds at State.reset and in every session just created. Rests on 10_state.md section 9;
70_reset_and_hazards.md section 1; 92_eei_decisions.md D11. -/
def Obligations.CreatedSessionMeetsTheInvariant : Prop :=
  Inv State.reset ∧ ∀ (init : InitRegs) (rule : SubAcRule), Inv (State.create init rule)

/-- No instruction changes a register, flag, cell or SP that its tables do not list. Rests on 40_flag_policy.md section 7;
10_state.md sections 2, 3 and 5; 42_data_move.md to 48_control.md. -/
def Obligations.EveryInstructionKeepsItsFootprint : Prop :=
  ∀ (i : Instr) (s t : State), exec i s = .next t →
    UnchangedExcept (writtenRegs i) (writesSp i) (declaredFlags i) (storedAddrs i s) s { t with draws := s.draws }

/-- What an instruction does outside Z, S and P does not depend on Z, S and P. Rests on 10_state.md section 5. -/
def Obligations.ZeroSignParityAreReadByNoInstruction : Prop :=
  ∀ (i : Instr) (s s' : State), eraseZsp s = eraseZsp s' →
    ∃ t t', exec i s = .next t ∧ exec i s' = .next t' ∧ eraseZsp t = eraseZsp t'

/-- No instruction but INX SP, DCX SP and DAD SP depends on SP, and SP addresses no memory. Rests on 10_state.md section
3. -/
def Obligations.StackPointerIsReadOnlyByItsOwnForms : Prop :=
  ∀ (i : Instr) (s : State) (v : Word), readsSp i = false → ∃ t, exec i s = .next t ∧
    exec i { s with sp := v } = .next (if writesSp i then t else { t with sp := v })

/-- load writes the program bytes at consecutive addresses, sets PC, and touches nothing else. Formalises R341. -/
def Obligations.LoadCopiesTheProgramAndSetsPc : Prop :=
  ∀ (limit : LoadLimit) (bytes : List Byte) (start : Word) (init : InitRegs) (rule : SubAcRule) (s : State),
    s = State.create init rule →
    (Config.loadBound limit < start.toNat + bytes.length →
      load limit bytes start s = .programTooLarge start.toNat bytes.length) ∧
    (start.toNat + bytes.length ≤ Config.loadBound limit → ∃ t, load limit bytes start s = .loaded t ∧
      (∀ (k : Nat) (hk : k < bytes.length), memRead (start.toNat + k) t = .ok bytes[k]) ∧
      (∀ addr, (addr < start.toNat ∨ start.toNat + bytes.length ≤ addr) → memRead addr t = memRead addr s) ∧
      t.pc = start ∧ { t with mem := s.mem, pc := s.pc } = s)

/-- A created and loaded session: memory the program and zero elsewhere, PC at start, Fetching, INIT_REGS kept. Rests on
10_state.md section 9; 70_reset_and_hazards.md section 1; 92_eei_decisions.md D11. -/
def Obligations.LoadedSessionStartsAsSpecified : Prop :=
  ∀ (init : InitRegs) (rule : SubAcRule) (limit : LoadLimit) (bytes : List Byte) (start : Word) (t : State),
    load limit bytes start (State.create init rule) = .loaded t →
    (∀ addr, addr ≤ 0xFFFF → memRead addr t =
      .ok (if start.toNat ≤ addr then bytes.getD (addr - start.toNat) 0x00#8 else 0x00#8)) ∧
    t.pc = start ∧ t.run = .fetching ∧ t.subAcRule = rule ∧
    t.a = init.a ∧ t.b = init.b ∧ t.c = init.c ∧ t.d = init.d ∧ t.e = init.e ∧ t.h = init.h ∧ t.l = init.l ∧
    t.sp = init.sp ∧ t.flags = ⟨init.z, init.s, init.p, init.ac, init.cy⟩ ∧ Inv t

/-- Under LOAD_LIMIT 0xFFFF no byte can be loaded at 0xFFFF; under 0x10000 one can. Rests on 70_reset_and_hazards.md
section 1 (R342); 92_eei_decisions.md D12; 95_test_vectors.md (Engine, memory and load). -/
def Obligations.LoadLimitDecidesTheTopByte : Prop :=
  ∀ (v : Byte) (init : InitRegs) (rule : SubAcRule) (s : State), s = State.create init rule →
    load .ffff [v] 0xFFFF#16 s = .programTooLarge 0xFFFF 1 ∧
    ∃ t, load .addressSpace [v] 0xFFFF#16 s = .loaded t ∧ memRead 0xFFFF t = .ok v ∧ t.pc = 0xFFFF#16

/-- The exit code is 0 exactly on a normal halt, nonzero on every failure, and none before the run ends. Rests on
60_exceptions.md section 6; 41_engine_loop.md section 3; 92_eei_decisions.md D21. -/
def Obligations.ExitCodeIsZeroOnlyOnNormalHalt : Prop :=
  (∀ s : State, (exitCode s = some 0 ↔ s.run = .halted .hlt) ∧ (exitCode s = none ↔ s.run = .fetching)) ∧
  (∀ start len budget, ∃ code, loadExitCode (.programTooLarge start len) budget = some code ∧ code ≠ 0)

/-- A write is read back, touches one cell and nothing else; above 0xFFFF both fail. Formalises R61, R62, R63. -/
def Obligations.MemoryPortRoundTrips : Prop :=
  ∀ (s : State) (addr : Nat) (v : Byte),
    (addr ≤ 0xFFFF → (∃ b, memRead addr s = .ok b) ∧ ∃ t, memWrite addr v s = .ok t ∧ memRead addr t = .ok v ∧
      (∀ a, a ≠ addr → memRead a t = memRead a s) ∧ { t with mem := s.mem } = s) ∧
    (0xFFFF < addr → memRead addr s = .error (.memoryFault addr) ∧ memWrite addr v s = .error (.memoryFault addr))

/-- Two canonical memories that read alike at every address are equal. Rests on 10_state.md section 8; 20_memory.md
section 3. -/
def Obligations.CanonicalMemoryIsDeterminedByItsReads : Prop :=
  ∀ m m' : Memory, Memory.wf m → Memory.wf m' → (∀ addr, Memory.get m addr = Memory.get m' addr) → m = m'

/-- A pair is a view over its two registers: set then get, halves, and writes of a half seen at once. Formalises R33. -/
def Obligations.RegisterPairsAreViews : Prop :=
  ∀ (s : State) (v : Word) (x : Byte),
    ((getPair .bc s).toNat = s.b.toNat * 256 + s.c.toNat ∧ (getPair .de s).toNat = s.d.toNat * 256 + s.e.toNat ∧
      (getPair .hl s).toNat = s.h.toNat * 256 + s.l.toNat) ∧
    (∀ p, getPair p (setPair p v s) = v ∧ UnchangedExcept (pairHalves p) (p == .sp) [] [] s (setPair p v s)) ∧
    ((setPair .bc v s).b.toNat = v.toNat / 256 ∧ (setPair .bc v s).c.toNat = v.toNat % 256 ∧
      (setPair .de v s).d.toNat = v.toNat / 256 ∧ (setPair .de v s).e.toNat = v.toNat % 256 ∧
      (setPair .hl v s).h.toNat = v.toNat / 256 ∧ (setPair .hl v s).l.toNat = v.toNat % 256) ∧
    ((getPair .hl (setReg .h x s)).toNat = x.toNat * 256 + s.l.toNat ∧
      (getPair .hl (setReg .l x s)).toNat = s.h.toNat * 256 + x.toNat) ∧
    (∀ p, (∃ t, exec (.inx p) s = .next t ∧ (getPair p t).toNat = ((getPair p s).toNat + 1) % 65536) ∧
      (∃ t, exec (.dcx p) s = .next t ∧ (getPair p t).toNat = ((getPair p s).toNat + 65535) % 65536) ∧
      (∃ t, exec (.dad p) s = .next t ∧
        (getPair .hl t).toNat = ((getPair .hl s).toNat + (getPair p s).toNat) % 65536))

/-- The two SUB_AC_RULE settings give complementary AuxiliaryCarry. Rests on 40_flag_policy.md section 4;
92_eei_decisions.md D4. -/
def Obligations.SubtractionAuxCarryRulesAreComplements : Prop :=
  ∀ (a b : Byte) (bin : Bool),
    (sub8 .complementAdd a b bin).ac = !(sub8 .borrow a b bin).ac ∧
    (sub8 .complementAdd a b bin).r = (sub8 .borrow a b bin).r ∧
    (sub8 .complementAdd a b bin).cy = (sub8 .borrow a b bin).cy

/-- INR then DCR, or DCR then INR, restores a register, and Z is then set iff it is 0. Rests on 95_test_vectors.md part 1
(S1); 44_inc_dec.md (DCR). -/
def Obligations.IncrementThenDecrementRestores : Prop :=
  ∀ (rd : Reg) (s : State), s.pc.toNat + 2 ≤ 0xFFFF →
    (∃ t u, exec (.inr (.reg rd)) s = .next t ∧ exec (.dcr (.reg rd)) t = .next u ∧
      getReg rd u = getReg rd s ∧ u.flags.z = decide ((getReg rd s).toNat = 0) ∧ u.flags.cy = s.flags.cy) ∧
    (∃ t u, exec (.dcr (.reg rd)) s = .next t ∧ exec (.inr (.reg rd)) t = .next u ∧
      getReg rd u = getReg rd s ∧ u.flags.z = decide ((getReg rd s).toNat = 0) ∧ u.flags.cy = s.flags.cy)

/-- MOV r1,r2 copies the source register and changes nothing else but PC. Formalises R170. -/
def Obligations.MovRegisterCopiesTheSource : Prop :=
  ∀ rd rs : Reg,
    encode (.movReg rd rs) = [0b01000000#8 ||| rd.code <<< 3 ||| rs.code] ∧ PcOverflowHalts 0 (.movReg rd rs) ∧
    (∀ s : State, Fits 0 s → ∃ t, exec (.movReg rd rs) s = .next t ∧ Completed 0 s t ∧
      getReg rd t = getReg rs s ∧ UnchangedExcept [rd] false [] [] s t)

/-- MOV r,M loads the cell at the old HL. Formalises R171. -/
def Obligations.MovLoadReadsTheCellAtHl : Prop :=
  ∀ rd : Reg,
    encode (.movLoad rd) = [0b01000110#8 ||| rd.code <<< 3] ∧ PcOverflowHalts 0 (.movLoad rd) ∧
    (∀ s : State, Fits 0 s → ∃ t, exec (.movLoad rd) s = .next t ∧ Completed 0 s t ∧
      memRead (hlAddr s) s = .ok (getReg rd t) ∧ UnchangedExcept [rd] false [] [] s t)

/-- MOV M,r stores the register at the address HL. Formalises R172. -/
def Obligations.MovStoreWritesTheCellAtHl : Prop :=
  ∀ rs : Reg,
    encode (.movStore rs) = [0b01110000#8 ||| rs.code] ∧ PcOverflowHalts 0 (.movStore rs) ∧
    (∀ s : State, Fits 0 s → ∃ t, exec (.movStore rs) s = .next t ∧ Completed 0 s t ∧
      memRead (hlAddr s) t = .ok (getReg rs s) ∧ UnchangedExcept [] false [] [hlAddr s] s t ∧
      (hlAddr s = t.pc.toNat → (codeBytes t).head? = some (getReg rs s)))

/-- MVI r,d8 loads the immediate byte. Rests on 42_data_move.md (MVI r,d8); 41_engine_loop.md section 2 (operand fetch);
92_eei_decisions.md D7, D10. Where it faults before the commit it states R150's own definition of a faulted state; a
claim about a program relies on the fault record alone (log entry 8). -/
def Obligations.MviLoadsTheImmediate : Prop :=
  ∀ (rd : Reg) (d8 : Byte),
    encode (.mvi (.reg rd) d8) = [0b00000110#8 ||| rd.code <<< 3, d8] ∧ OperandFetchHalts 1 (0b00000110#8 ||| rd.code <<< 3) ∧ PcOverflowHalts 1 (.mvi (.reg rd) d8) ∧
    (∀ s : State, Fits 1 s → ∃ t, exec (.mvi (.reg rd) d8) s = .next t ∧ Completed 1 s t ∧
      getReg rd t = d8 ∧ UnchangedExcept [rd] false [] [] s t)

/-- MVI M,d8 stores the immediate byte at the address HL. Rests on 42_data_move.md (MVI M,d8); 41_engine_loop.md section 2
(operand fetch); 92_eei_decisions.md D7, D10, D13, D15. Where it faults before the commit it states R150's own
definition of a faulted state; a claim about a program relies on the fault record alone (log entry 8). -/
def Obligations.MviMemoryStoresTheImmediate : Prop :=
  ∀ d8 : Byte,
    encode (.mvi .m d8) = [0b00110110#8, d8] ∧ OperandFetchHalts 1 0b00110110#8 ∧ PcOverflowHalts 1 (.mvi .m d8) ∧
    (∀ s : State, Fits 1 s → ∃ t, exec (.mvi .m d8) s = .next t ∧ Completed 1 s t ∧
      memRead (hlAddr s) t = .ok d8 ∧ UnchangedExcept [] false [] [hlAddr s] s t ∧
      (hlAddr s = t.pc.toNat → (codeBytes t).head? = some d8))

/-- LXI rp,d16 loads the pair or SP, low byte first in the instruction. Rests on 43_load_store.md (LXI rp,d16);
41_engine_loop.md section 2 (operand fetch); 92_eei_decisions.md D7, D10. Where it faults before the commit it states
R150's own definition of a faulted state; a claim about a program relies on the fault record alone (log entry 8). -/
def Obligations.LxiLoadsThePair : Prop :=
  ∀ (p : Pair) (d16 : Word),
    encode (.lxi p d16) = [0b00000001#8 ||| p.code <<< 4, loByte d16, hiByte d16] ∧ OperandFetchHalts 2 (0b00000001#8 ||| p.code <<< 4) ∧ PcOverflowHalts 2 (.lxi p d16) ∧
    (∀ s : State, Fits 2 s → ∃ t, exec (.lxi p d16) s = .next t ∧ Completed 2 s t ∧
      getPair p t = d16 ∧ UnchangedExcept (pairHalves p) (p == .sp) [] [] s t)

/-- STAX stores A at the address in BC or DE. Formalises R191. -/
def Obligations.StaxStoresTheAccumulator : Prop :=
  ∀ p : IndexPair,
    encode (.stax p) = [0b00000010#8 ||| p.pair.code <<< 4] ∧ PcOverflowHalts 0 (.stax p) ∧
    (∀ s : State, Fits 0 s → ∃ t, exec (.stax p) s = .next t ∧ Completed 0 s t ∧
      memRead (getPair p.pair s).toNat t = .ok s.a ∧
      UnchangedExcept [] false [] [(getPair p.pair s).toNat] s t)

/-- LDAX loads A from the address in BC or DE. Formalises R192. -/
def Obligations.LdaxLoadsTheAccumulator : Prop :=
  ∀ p : IndexPair,
    encode (.ldax p) = [0b00001010#8 ||| p.pair.code <<< 4] ∧ PcOverflowHalts 0 (.ldax p) ∧
    (∀ s : State, Fits 0 s → ∃ t, exec (.ldax p) s = .next t ∧ Completed 0 s t ∧
      memRead (getPair p.pair s).toNat s = .ok t.a ∧ UnchangedExcept [.a] false [] [] s t)

/-- SHLD a16 stores L at a16 and H at a16 + 1; at 0xFFFF it faults with no cell written. Rests on 43_load_store.md (SHLD
a16); 92_eei_decisions.md D7, D10. Where it faults before the commit it states R150's own definition of a faulted
state; a claim about a program relies on the fault record alone (log entry 8). -/
def Obligations.ShldStoresHlLowByteFirst : Prop :=
  ∀ a16 : Word,
    encode (.shld a16) = [0b00100010#8, loByte a16, hiByte a16] ∧ OperandFetchHalts 2 0b00100010#8 ∧ PcOverflowHalts 2 (.shld a16) ∧
    (∀ s : State, Fits 2 s → a16.toNat < 0xFFFF → ∃ t, exec (.shld a16) s = .next t ∧ Completed 2 s t ∧
      memRead a16.toNat t = .ok s.l ∧ memRead (a16.toNat + 1) t = .ok s.h ∧
      UnchangedExcept [] false [] [a16.toNat, a16.toNat + 1] s t) ∧
    (∀ s : State, a16.toNat = 0xFFFF → exec (.shld a16) s = .next { s with run := .halted (.memoryFault 0x10000) })

/-- LHLD a16 loads L from a16 and H from a16 + 1; at 0xFFFF it faults with neither written. Rests on 43_load_store.md
(LHLD a16); 92_eei_decisions.md D7, D10. Where it faults before the commit it states R150's own definition of a
faulted state; a claim about a program relies on the fault record alone (log entry 8). -/
def Obligations.LhldLoadsHlLowByteFirst : Prop :=
  ∀ a16 : Word,
    encode (.lhld a16) = [0b00101010#8, loByte a16, hiByte a16] ∧ OperandFetchHalts 2 0b00101010#8 ∧ PcOverflowHalts 2 (.lhld a16) ∧
    (∀ s : State, Fits 2 s → a16.toNat < 0xFFFF → ∃ t, exec (.lhld a16) s = .next t ∧ Completed 2 s t ∧
      memRead a16.toNat s = .ok t.l ∧ memRead (a16.toNat + 1) s = .ok t.h ∧
      UnchangedExcept [.h, .l] false [] [] s t) ∧
    (∀ s : State, a16.toNat = 0xFFFF → exec (.lhld a16) s = .next { s with run := .halted (.memoryFault 0x10000) })

/-- STA a16 stores A at a16. Rests on 43_load_store.md (STA a16); 41_engine_loop.md section 2 (operand fetch);
92_eei_decisions.md D7, D10, D15. Where it faults before the commit it states R150's own definition of a faulted
state; a claim about a program relies on the fault record alone (log entry 8). -/
def Obligations.StaStoresTheAccumulator : Prop :=
  ∀ a16 : Word,
    encode (.sta a16) = [0b00110010#8, loByte a16, hiByte a16] ∧ OperandFetchHalts 2 0b00110010#8 ∧ PcOverflowHalts 2 (.sta a16) ∧
    (∀ s : State, Fits 2 s → ∃ t, exec (.sta a16) s = .next t ∧ Completed 2 s t ∧
      memRead a16.toNat t = .ok s.a ∧ UnchangedExcept [] false [] [a16.toNat] s t ∧
      (a16 = t.pc → (codeBytes t).head? = some s.a))

/-- LDA a16 loads A from a16. Rests on 43_load_store.md (LDA a16); 41_engine_loop.md section 2 (operand fetch);
92_eei_decisions.md D7, D10. Where it faults before the commit it states R150's own definition of a faulted state; a
claim about a program relies on the fault record alone (log entry 8). -/
def Obligations.LdaLoadsTheAccumulator : Prop :=
  ∀ a16 : Word,
    encode (.lda a16) = [0b00111010#8, loByte a16, hiByte a16] ∧ OperandFetchHalts 2 0b00111010#8 ∧ PcOverflowHalts 2 (.lda a16) ∧
    (∀ s : State, Fits 2 s → ∃ t, exec (.lda a16) s = .next t ∧ Completed 2 s t ∧
      memRead a16.toNat s = .ok t.a ∧ UnchangedExcept [.a] false [] [] s t)

/-- INR r adds 1 modulo 256, writes Z, S, P and AC, and keeps CY. Formalises R210. -/
def Obligations.InrIncrementsTheRegister : Prop :=
  ∀ rd : Reg,
    encode (.inr (.reg rd)) = [0b00000100#8 ||| rd.code <<< 3] ∧ PcOverflowHalts 0 (.inr (.reg rd)) ∧
    (∀ s : State, Fits 0 s → ∃ t, exec (.inr (.reg rd)) s = .next t ∧ Completed 0 s t ∧
      (getReg rd t).toNat = ((getReg rd s).toNat + 1) % 256 ∧ ZspOf (getReg rd t) t ∧
      t.flags.ac = decide ((getReg rd s).toNat % 16 = 0xF) ∧ UnchangedExcept [rd] false [.z, .s, .p, .ac] [] s t)

/-- INR M adds 1 modulo 256 to the cell at HL, writes Z, S, P and AC, and keeps CY. Formalises R211. -/
def Obligations.InrMemoryIncrementsTheCell : Prop :=
  encode (.inr .m) = [0b00110100#8] ∧ PcOverflowHalts 0 ((.inr .m)) ∧
  (∀ s : State, Fits 0 s → ∃ t, exec (.inr .m) s = .next t ∧ Completed 0 s t ∧
      ∃ r : Byte, memRead (hlAddr s) t = .ok r ∧ r.toNat = ((operand .m s).toNat + 1) % 256 ∧ ZspOf r t ∧
      t.flags.ac = decide ((operand .m s).toNat % 16 = 0xF) ∧
      UnchangedExcept [] false [.z, .s, .p, .ac] [hlAddr s] s t)

/-- DCR r subtracts 1 modulo 256, writes Z, S, P and AC, and keeps CY. Rests on 44_inc_dec.md (DCR r); 92_eei_decisions.md
D4. -/
def Obligations.DcrDecrementsTheRegister : Prop :=
  ∀ rd : Reg,
    encode (.dcr (.reg rd)) = [0b00000101#8 ||| rd.code <<< 3] ∧ PcOverflowHalts 0 (.dcr (.reg rd)) ∧
    (∀ s : State, Fits 0 s → ∃ t, exec (.dcr (.reg rd)) s = .next t ∧ Completed 0 s t ∧
      (getReg rd t).toNat = ((getReg rd s).toNat + 255) % 256 ∧ ZspOf (getReg rd t) t ∧
      t.flags.ac = (match s.subAcRule with
        | .complementAdd => decide ((getReg rd s).toNat % 16 ≠ 0)
        | .borrow => decide ((getReg rd s).toNat % 16 = 0)) ∧
      UnchangedExcept [rd] false [.z, .s, .p, .ac] [] s t)

/-- DCR M subtracts 1 modulo 256 from the cell at HL, writes Z, S, P and AC, and keeps CY. Rests on 44_inc_dec.md (DCR M);
92_eei_decisions.md D4. -/
def Obligations.DcrMemoryDecrementsTheCell : Prop :=
  encode (.dcr .m) = [0b00110101#8] ∧ PcOverflowHalts 0 ((.dcr .m)) ∧
  (∀ s : State, Fits 0 s → ∃ t, exec (.dcr .m) s = .next t ∧ Completed 0 s t ∧
      ∃ r : Byte, memRead (hlAddr s) t = .ok r ∧ r.toNat = ((operand .m s).toNat + 255) % 256 ∧ ZspOf r t ∧
      t.flags.ac = (match s.subAcRule with
        | .complementAdd => decide ((operand .m s).toNat % 16 ≠ 0)
        | .borrow => decide ((operand .m s).toNat % 16 = 0)) ∧
      UnchangedExcept [] false [.z, .s, .p, .ac] [hlAddr s] s t)

/-- INX rp adds 1 modulo 65536 and writes no flag. Formalises R214. -/
def Obligations.InxIncrementsThePair : Prop :=
  ∀ p : Pair,
    encode (.inx p) = [0b00000011#8 ||| p.code <<< 4] ∧ PcOverflowHalts 0 (.inx p) ∧
    (∀ s : State, Fits 0 s → ∃ t, exec (.inx p) s = .next t ∧ Completed 0 s t ∧
      (getPair p t).toNat = ((getPair p s).toNat + 1) % 65536 ∧
      UnchangedExcept (pairHalves p) (p == .sp) [] [] s t)

/-- DCX rp subtracts 1 modulo 65536 and writes no flag. Formalises R215. -/
def Obligations.DcxDecrementsThePair : Prop :=
  ∀ p : Pair,
    encode (.dcx p) = [0b00001011#8 ||| p.code <<< 4] ∧ PcOverflowHalts 0 (.dcx p) ∧
    (∀ s : State, Fits 0 s → ∃ t, exec (.dcx p) s = .next t ∧ Completed 0 s t ∧
      (getPair p t).toNat = ((getPair p s).toNat + 65535) % 65536 ∧
      UnchangedExcept (pairHalves p) (p == .sp) [] [] s t)

/-- ADD r and ADD M add to A modulo 256 and write all five flags. Formalises R230, R231. -/
def Obligations.AddAddsToTheAccumulator : Prop :=
  ∀ x : Src,
    encode (.add x) = [0b10000000#8 ||| x.code] ∧ PcOverflowHalts 0 (.add x) ∧
    (∀ s : State, Fits 0 s → ∃ t, exec (.add x) s = .next t ∧ Completed 0 s t ∧
      t.a.toNat = (s.a.toNat + (operand x s).toNat) % 256 ∧ ZspOf t.a t ∧
      t.flags.cy = decide (s.a.toNat + (operand x s).toNat > 255) ∧
      t.flags.ac = decide (s.a.toNat % 16 + (operand x s).toNat % 16 > 15) ∧
      UnchangedExcept [.a] false [.z, .s, .p, .ac, .cy] [] s t)

/-- ADC r and ADC M add the operand and the old Carry to A and write all five flags. Formalises R232, R233. -/
def Obligations.AdcAddsWithCarry : Prop :=
  ∀ x : Src,
    encode (.adc x) = [0b10001000#8 ||| x.code] ∧ PcOverflowHalts 0 (.adc x) ∧
    (∀ s : State, Fits 0 s → ∃ t, exec (.adc x) s = .next t ∧ Completed 0 s t ∧
      t.a.toNat = (s.a.toNat + (operand x s).toNat + s.flags.cy.toNat) % 256 ∧ ZspOf t.a t ∧
      t.flags.cy = decide (s.a.toNat + (operand x s).toNat + s.flags.cy.toNat > 255) ∧
      t.flags.ac = decide (s.a.toNat % 16 + (operand x s).toNat % 16 + s.flags.cy.toNat > 15) ∧
      UnchangedExcept [.a] false [.z, .s, .p, .ac, .cy] [] s t)

/-- SUB r and SUB M subtract from A modulo 256, CY the borrow, and write all five flags. Rests on 45_arithmetic.md (SUB r,
SUB M); 40_flag_policy.md section 4; 92_eei_decisions.md D3, D4. -/
def Obligations.SubSubtractsFromTheAccumulator : Prop :=
  ∀ x : Src,
    encode (.sub x) = [0b10010000#8 ||| x.code] ∧ PcOverflowHalts 0 (.sub x) ∧
    (∀ s : State, Fits 0 s → ∃ t, exec (.sub x) s = .next t ∧ Completed 0 s t ∧
      t.a.toNat = (s.a.toNat + 512 - (operand x s).toNat) % 256 ∧ ZspOf t.a t ∧
      t.flags.cy = decide (s.a.toNat < (operand x s).toNat) ∧
      t.flags.ac = (match s.subAcRule with
        | .complementAdd => !decide (s.a.toNat % 16 < (operand x s).toNat % 16)
        | .borrow => decide (s.a.toNat % 16 < (operand x s).toNat % 16)) ∧
      UnchangedExcept [.a] false [.z, .s, .p, .ac, .cy] [] s t)

/-- SBB r and SBB M subtract the operand and the old Carry from A and write all five flags. Rests on 45_arithmetic.md (SBB
r, SBB M); 40_flag_policy.md section 4; 92_eei_decisions.md D3, D4. -/
def Obligations.SbbSubtractsWithBorrow : Prop :=
  ∀ x : Src,
    encode (.sbb x) = [0b10011000#8 ||| x.code] ∧ PcOverflowHalts 0 (.sbb x) ∧
    (∀ s : State, Fits 0 s → ∃ t, exec (.sbb x) s = .next t ∧ Completed 0 s t ∧
      t.a.toNat = (s.a.toNat + 512 - (operand x s).toNat - s.flags.cy.toNat) % 256 ∧ ZspOf t.a t ∧
      t.flags.cy = decide (s.a.toNat < (operand x s).toNat + s.flags.cy.toNat) ∧
      t.flags.ac = (match s.subAcRule with
        | .complementAdd => !decide (s.a.toNat % 16 < (operand x s).toNat % 16 + s.flags.cy.toNat)
        | .borrow => decide (s.a.toNat % 16 < (operand x s).toNat % 16 + s.flags.cy.toNat)) ∧
      UnchangedExcept [.a] false [.z, .s, .p, .ac, .cy] [] s t)

/-- DAD rp adds the pair or SP to HL modulo 65536 and writes CY alone. Formalises R238. -/
def Obligations.DadAddsThePairToHl : Prop :=
  ∀ p : Pair,
    encode (.dad p) = [0b00001001#8 ||| p.code <<< 4] ∧ PcOverflowHalts 0 (.dad p) ∧
    (∀ s : State, Fits 0 s → ∃ t, exec (.dad p) s = .next t ∧ Completed 0 s t ∧
      (getPair .hl t).toNat = ((getPair .hl s).toNat + (getPair p s).toNat) % 65536 ∧
      t.flags.cy = decide ((getPair .hl s).toNat + (getPair p s).toNat > 0xFFFF) ∧
      UnchangedExcept [.h, .l] false [.cy] [] s t)

/-- DAA adds the decimal correction to A, never clears CY, and writes all five flags. Rests on 45_arithmetic.md (DAA);
90_conflicts.md C6; 92_eei_decisions.md D5. -/
def Obligations.DaaAdjustsTheAccumulator : Prop :=
  encode .daa = [0b00100111#8] ∧ PcOverflowHalts 0 (.daa) ∧
  (∀ s : State, Fits 0 s → ∃ t, exec .daa s = .next t ∧ Completed 0 s t ∧
      ∃ lo hi : Bool, lo = (decide (s.a.toNat % 16 > 9) || s.flags.ac) ∧
      hi = (s.flags.cy || decide (s.a.toNat / 16 > 9) || (decide (s.a.toNat / 16 ≥ 9) && decide (s.a.toNat % 16 > 9))) ∧
      t.a.toNat = (s.a.toNat + (if lo then 0x06 else 0) + (if hi then 0x60 else 0)) % 256 ∧ ZspOf t.a t ∧
      t.flags.ac = decide (s.a.toNat % 16 > 9) ∧ t.flags.cy = (s.flags.cy || hi) ∧
      UnchangedExcept [.a] false [.z, .s, .p, .ac, .cy] [] s t)

/-- RLC and RRC rotate A by one bit, CY takes the bit rotated out, nothing else changes. Rests on 46_rotate.md (RLC, RRC);
92_eei_decisions.md D6. -/
def Obligations.CircularRotatesMoveEveryBit : Prop :=
  (encode .rlc = [0b00000111#8] ∧ PcOverflowHalts 0 .rlc ∧
    ∀ s : State, Fits 0 s → ∃ t, exec .rlc s = .next t ∧ Completed 0 s t ∧
      (∀ k < 8, t.a.getLsbD k = s.a.getLsbD ((k + 7) % 8)) ∧ t.flags.cy = s.a.getLsbD 7 ∧
      UnchangedExcept [.a] false [.cy] [] s t) ∧
  (encode .rrc = [0b00001111#8] ∧ PcOverflowHalts 0 .rrc ∧
    ∀ s : State, Fits 0 s → ∃ t, exec .rrc s = .next t ∧ Completed 0 s t ∧
      (∀ k < 8, t.a.getLsbD k = s.a.getLsbD ((k + 1) % 8)) ∧ t.flags.cy = s.a.getLsbD 0 ∧
      UnchangedExcept [.a] false [.cy] [] s t)

/-- RAL and RAR rotate A and CY by one bit, nothing else changes. Rests on 46_rotate.md (RAL, RAR); 92_eei_decisions.md
D6. -/
def Obligations.CarryRotatesMoveEveryBit : Prop :=
  (encode .ral = [0b00010111#8] ∧ PcOverflowHalts 0 .ral ∧
    ∀ s : State, Fits 0 s → ∃ t, exec .ral s = .next t ∧ Completed 0 s t ∧
      (∀ k < 8, t.a.getLsbD k = (if k = 0 then s.flags.cy else s.a.getLsbD (k - 1))) ∧ t.flags.cy = s.a.getLsbD 7 ∧
      UnchangedExcept [.a] false [.cy] [] s t) ∧
  (encode .rar = [0b00011111#8] ∧ PcOverflowHalts 0 .rar ∧
    ∀ s : State, Fits 0 s → ∃ t, exec .rar s = .next t ∧ Completed 0 s t ∧
      (∀ k < 8, t.a.getLsbD k = (if k = 7 then s.flags.cy else s.a.getLsbD (k + 1))) ∧ t.flags.cy = s.a.getLsbD 0 ∧
      UnchangedExcept [.a] false [.cy] [] s t)

/-- CMA complements A and writes no flag. Formalises R270. -/
def Obligations.CmaComplementsTheAccumulator : Prop :=
  encode .cma = [0b00101111#8] ∧ PcOverflowHalts 0 (.cma) ∧
  (∀ s : State, Fits 0 s → ∃ t, exec .cma s = .next t ∧ Completed 0 s t ∧
      t.a.toNat = 255 - s.a.toNat ∧ UnchangedExcept [.a] false [] [] s t)

/-- STC sets CY, CMC inverts it, and neither changes anything else. Formalises R271, R272. -/
def Obligations.CarryInstructionsWriteOnlyCarry : Prop :=
  (encode .stc = [0b00110111#8] ∧ PcOverflowHalts 0 .stc ∧
    ∀ s : State, Fits 0 s → ∃ t, exec .stc s = .next t ∧ Completed 0 s t ∧
      t.flags.cy = true ∧ UnchangedExcept [] false [.cy] [] s t) ∧
  (encode .cmc = [0b00111111#8] ∧ PcOverflowHalts 0 .cmc ∧
    ∀ s : State, Fits 0 s → ∃ t, exec .cmc s = .next t ∧ Completed 0 s t ∧
      t.flags.cy = !s.flags.cy ∧ UnchangedExcept [] false [.cy] [] s t)

/-- NOP changes nothing but PC. Formalises R280. -/
def Obligations.NopOnlyAdvancesPc : Prop :=
  encode .nop = [0b00000000#8] ∧ PcOverflowHalts 0 (.nop) ∧
  (∀ s : State, Fits 0 s → ∃ t, exec .nop s = .next t ∧ Completed 0 s t ∧
      UnchangedExcept [] false [] [] s t) ∧
  (∀ (init : InitRegs) (rule : SubAcRule) (addr : Nat), addr ≤ 0xFFFF →
    memRead addr (State.create init rule) = .ok 0b00000000#8)
end

