-- ==== Sys2Proof/Laws/Decode.lean ====
section
/-! SUPPORT. Lemmas about the byte helpers and the decoder. -/

namespace Sys2Proof

/-- The value of a joined pair of bytes: `(hi << 8) | lo` is `hi * 256 + lo`. -/
theorem joinBytes_toNat (hi lo : Byte) : (joinBytes hi lo).toNat = hi.toNat * 256 + lo.toNat := by
  have h := Nat.two_pow_add_eq_or_of_lt lo.isLt hi.toNat
  rw [joinBytes, BitVec.toNat_append, Nat.shiftLeft_eq, Nat.mul_comm hi.toNat]
  omega

theorem hiByte_toNat (w : Word) : (hiByte w).toNat = w.toNat / 256 := by
  have := w.isLt
  simp only [hiByte, BitVec.extractLsb'_toNat, Nat.shiftRight_eq_div_pow]
  omega

theorem loByte_toNat (w : Word) : (loByte w).toNat = w.toNat % 256 := by
  simp only [loByte, BitVec.extractLsb'_toNat, Nat.shiftRight_eq_div_pow]
  omega

@[simp] theorem joinBytes_hiByte_loByte (w : Word) : joinBytes (hiByte w) (loByte w) = w := by
  apply BitVec.eq_of_toNat_eq
  rw [joinBytes_toNat, hiByte_toNat, loByte_toNat]
  omega

@[simp] theorem hiByte_joinBytes (hi lo : Byte) : hiByte (joinBytes hi lo) = hi := by
  have := lo.isLt
  apply BitVec.eq_of_toNat_eq
  rw [hiByte_toNat, joinBytes_toNat]
  omega

@[simp] theorem loByte_joinBytes (hi lo : Byte) : loByte (joinBytes hi lo) = lo := by
  have := lo.isLt
  apply BitVec.eq_of_toNat_eq
  rw [loByte_toNat, joinBytes_toNat]
  omega

/-- An opcode decodes to `unimplemented` exactly when it is one of the 103. -/
theorem decodeOpcode_unimplemented (op : Byte) (h : unimplementedOpcode op = true) :
    decodeOpcode op = .f0 (.unimplemented op) := by
  have key : ∀ op : Byte, unimplementedOpcode op = true →
      (match decodeOpcode op with | .f0 i => decide (i = .unimplemented op) | _ => false) = true := by decide
  have := key op h
  revert this
  cases decodeOpcode op <;> simp

/-- Decoding a three-byte instruction from its opcode and the two bytes of its operand. -/
theorem decode_f2 {op : Byte} {k : Word → Instr} (rest : List Byte) (h : decodeOpcode op = .f2 k) (w : Word) :
    decode (op :: loByte w :: hiByte w :: rest) = .ok (k w, rest) := by
  simp [decode, h]

end Sys2Proof
end

