-- ==== Sys2Proof/Laws/Memory.lean ====
section
/-! SUPPORT. Memory laws: a read after a write, a write leaves other cells alone, every write keeps the canonical form, and a
canonical memory is determined by its reads. -/

namespace Sys2Proof.Machine

/-! ### Reads and writes of the cell list -/

theorem Memory.get_cons (cell : Host.Cell) (m : Memory) (addr : Nat) :
    Memory.get (cell :: m) addr = if cell.1 = addr then cell.2 else Memory.get m addr := rfl

theorem Memory.get_of_not_listed {m : Memory} {addr : Nat} (h : ∀ cell ∈ m, cell.1 ≠ addr) :
    Memory.get m addr = Config.blankByte := by
  induction m with
  | nil => rfl
  | cons cell m ih =>
    rw [Memory.get_cons, if_neg (h cell (by simp))]
    exact ih fun x hx => h x (by simp [hx])

theorem Memory.get_insert (m : Memory) (addr a : Nat) (v : Byte) :
    Memory.get (Memory.insert m addr v) a = if a = addr then v else Memory.get m a := by
  induction m with
  | nil => simp [Memory.insert, Memory.get, eq_comm]
  | cons cell m ih =>
    simp only [Memory.insert]
    split
    · simp only [Memory.get_cons]
      grind
    · split <;> simp only [Memory.get_cons, ih] <;> grind

theorem Memory.get_filter (m : Memory) (addr a : Nat) :
    Memory.get (m.filter (fun cell => cell.1 != addr)) a = if a = addr then Config.blankByte else Memory.get m a := by
  induction m with
  | nil => simp [Memory.get]
  | cons cell m ih =>
    rw [List.filter_cons]
    split <;> simp only [Memory.get_cons, ih] <;> grind

/-- Reading any cell after writing one. -/
theorem Memory.get_set (m : Memory) (addr a : Nat) (v : Byte) :
    Memory.get (Memory.set m addr v) a = if a = addr then v else Memory.get m a := by
  unfold Memory.set
  split
  · rw [Memory.get_filter]
    grind
  · exact Memory.get_insert m addr a v

@[simp] theorem Memory.get_set_self (m : Memory) (addr : Nat) (v : Byte) :
    Memory.get (Memory.set m addr v) addr = v := by simp [Memory.get_set]

theorem Memory.get_set_of_ne {addr a : Nat} (h : a ≠ addr) (m : Memory) (v : Byte) :
    Memory.get (Memory.set m addr v) a = Memory.get m a := by simp [Memory.get_set, h]

/-! ### The canonical form -/

theorem Memory.mem_insert {m : Memory} {addr : Nat} {v : Byte} {cell : Host.Cell}
    (h : cell ∈ Memory.insert m addr v) : cell = (addr, v) ∨ cell ∈ m := by
  induction m with
  | nil => simpa [Memory.insert] using h
  | cons x m ih =>
    simp only [Memory.insert] at h
    split at h
    · simpa using h
    · split at h
      · rcases List.mem_cons.mp h with h | h
        · exact .inl h
        · exact .inr (List.mem_cons_of_mem _ h)
      · rcases List.mem_cons.mp h with h | h
        · exact .inr (h ▸ List.mem_cons_self)
        · exact (ih h).imp_right (List.mem_cons_of_mem _)

theorem Memory.pairwise_insert {m : Memory} (h : m.Pairwise (fun x y => x.1 < y.1)) (addr : Nat) (v : Byte) :
    (Memory.insert m addr v).Pairwise (fun x y => x.1 < y.1) := by
  induction m with
  | nil => simp [Memory.insert]
  | cons cell m ih =>
    obtain ⟨hhead, htail⟩ := List.pairwise_cons.mp h
    simp only [Memory.insert]
    split
    · rename_i hlt
      refine List.pairwise_cons.mpr ⟨fun x hx => ?_, h⟩
      rcases List.mem_cons.mp hx with rfl | hx
      · exact hlt
      · exact hlt.trans (hhead x hx)
    · split
      · rename_i heq
        exact List.pairwise_cons.mpr ⟨fun x hx => heq ▸ hhead x hx, htail⟩
      · refine List.pairwise_cons.mpr ⟨fun x hx => ?_, ih htail⟩
        rcases Memory.mem_insert hx with rfl | hx
        · grind
        · exact hhead x hx

/-- A write inside the address space keeps the canonical form. -/
theorem Memory.wf_set {m : Memory} (h : Memory.wf m) {addr : Nat} (ha : addr ≤ Config.maxAddress) (v : Byte) :
    Memory.wf (Memory.set m addr v) := by
  unfold Memory.set
  split
  · exact ⟨h.1.filter _, fun cell hc => h.2 cell (List.mem_of_mem_filter hc)⟩
  · rename_i hv
    refine ⟨Memory.pairwise_insert h.1 addr v, fun cell hc => ?_⟩
    rcases Memory.mem_insert hc with rfl | hc
    · exact ⟨ha, hv⟩
    · exact h.2 cell hc

theorem Memory.wf_nil : Memory.wf [] := by simp [Memory.wf]

/-! ### The port -/

theorem memRead_of_le {addr : Nat} (h : addr ≤ Config.maxAddress) (s : State) :
    memRead addr s = .ok (Memory.get s.mem addr) := by simp [memRead, Nat.not_lt.mpr h]

theorem memRead_of_gt {addr : Nat} (h : Config.maxAddress < addr) (s : State) :
    memRead addr s = .error (.memoryFault addr) := by simp [memRead, h]

theorem memWrite_of_le {addr : Nat} (h : addr ≤ Config.maxAddress) (v : Byte) (s : State) :
    memWrite addr v s = .ok (setMem (Memory.set s.mem addr v) s) := by simp [memWrite, Nat.not_lt.mpr h]

theorem memWrite_of_gt {addr : Nat} (h : Config.maxAddress < addr) (v : Byte) (s : State) :
    memWrite addr v s = .error (.memoryFault addr) := by simp [memWrite, h]

theorem word_le_maxAddress (w : Word) : w.toNat ≤ Config.maxAddress := by
  have := w.isLt
  simp only [Config.maxAddress]
  omega

/-- A 16-bit address is always in range (20_memory.md R68). -/
@[simp] theorem memRead_word (w : Word) (s : State) : memRead w.toNat s = .ok (Memory.get s.mem w.toNat) :=
  memRead_of_le (word_le_maxAddress w) s

@[simp] theorem memWrite_word (w : Word) (v : Byte) (s : State) :
    memWrite w.toNat v s = .ok (setMem (Memory.set s.mem w.toNat v) s) := memWrite_of_le (word_le_maxAddress w) v s

/-- A read depends on the memory alone. -/
theorem memRead_congr {s t : State} (h : t.mem = s.mem) (addr : Nat) : memRead addr t = memRead addr s := by
  simp [memRead, h]

/-- A read of the cell a write stored to. -/
theorem memRead_set_self {addr : Nat} (h : addr ≤ Config.maxAddress) (m : Memory) (v : Byte) (s : State) :
    memRead addr (setMem (Memory.set m addr v) s) = .ok v := by
  rw [memRead_of_le h]
  exact congrArg _ (Memory.get_set_self m addr v)

/-- A read elsewhere after a write. -/
theorem memRead_set_of_ne {a addr : Nat} (h : a ≠ addr) (m : Memory) (v : Byte) (s : State) :
    memRead a (setMem (Memory.set m addr v) s) = memRead a (setMem m s) := by
  simp [memRead, setMem, Memory.get_set_of_ne h]

end Sys2Proof.Machine
end

