-- ==== Sys2Proof/Laws/State.lean ====
section
/-! SUPPORT. One lemma per field per update of the state, and the reads through `getReg`, `getPair`, `getFlag`, `memRead` and
`operand` after each update, so that no later proof unfolds a record update. -/

namespace Sys2Proof.Machine

/-! ### `setReg` -/

@[simp] theorem getReg_setReg_self (r : Reg) (v : Byte) (s : State) : getReg r (setReg r v s) = v := by cases r <;> rfl

theorem getReg_setReg_of_ne {q r : Reg} (h : q ≠ r) (v : Byte) (s : State) : getReg q (setReg r v s) = getReg q s := by
  cases q <;> cases r <;> first | rfl | exact absurd rfl h

@[simp] theorem setReg_sp (r : Reg) (v : Byte) (s : State) : (setReg r v s).sp = s.sp := by cases r <;> rfl

@[simp] theorem setReg_pc (r : Reg) (v : Byte) (s : State) : (setReg r v s).pc = s.pc := by cases r <;> rfl

@[simp] theorem setReg_flags (r : Reg) (v : Byte) (s : State) : (setReg r v s).flags = s.flags := by cases r <;> rfl

@[simp] theorem setReg_mem (r : Reg) (v : Byte) (s : State) : (setReg r v s).mem = s.mem := by cases r <;> rfl

@[simp] theorem setReg_run (r : Reg) (v : Byte) (s : State) : (setReg r v s).run = s.run := by cases r <;> rfl

@[simp] theorem setReg_subAcRule (r : Reg) (v : Byte) (s : State) : (setReg r v s).subAcRule = s.subAcRule := by cases r <;> rfl

@[simp] theorem setReg_draws (r : Reg) (v : Byte) (s : State) : (setReg r v s).draws = s.draws := by cases r <;> rfl

@[simp] theorem setReg_a_a (v : Byte) (s : State) : (setReg .a v s).a = v := rfl

@[simp] theorem getFlag_setReg (f : Flag) (r : Reg) (v : Byte) (s : State) : getFlag f (setReg r v s) = getFlag f s := by
  cases r <;> rfl

@[simp] theorem memRead_setReg (addr : Nat) (r : Reg) (v : Byte) (s : State) :
    memRead addr (setReg r v s) = memRead addr s := memRead_congr (by simp) addr

/-! ### `setPair` -/

@[simp] theorem getPair_setPair_self (p : Pair) (v : Word) (s : State) : getPair p (setPair p v s) = v := by
  cases p <;> simp [getPair, setPair]

theorem setPair_sp_of_ne {p : Pair} (h : p ≠ .sp) (v : Word) (s : State) : (setPair p v s).sp = s.sp := by
  cases p <;> first | rfl | exact absurd rfl h

theorem getReg_setPair_of_not_mem {q : Reg} {p : Pair} (h : q ∉ pairHalves p) (v : Word) (s : State) :
    getReg q (setPair p v s) = getReg q s := by
  cases p <;> cases q <;> first | rfl | exact absurd (by decide) h

@[simp] theorem setPair_pc (p : Pair) (v : Word) (s : State) : (setPair p v s).pc = s.pc := by cases p <;> rfl

@[simp] theorem setPair_flags (p : Pair) (v : Word) (s : State) : (setPair p v s).flags = s.flags := by cases p <;> rfl

@[simp] theorem setPair_mem (p : Pair) (v : Word) (s : State) : (setPair p v s).mem = s.mem := by cases p <;> rfl

@[simp] theorem setPair_run (p : Pair) (v : Word) (s : State) : (setPair p v s).run = s.run := by cases p <;> rfl

@[simp] theorem setPair_subAcRule (p : Pair) (v : Word) (s : State) : (setPair p v s).subAcRule = s.subAcRule := by cases p <;> rfl

@[simp] theorem setPair_draws (p : Pair) (v : Word) (s : State) : (setPair p v s).draws = s.draws := by cases p <;> rfl

@[simp] theorem getFlag_setPair (f : Flag) (p : Pair) (v : Word) (s : State) : getFlag f (setPair p v s) = getFlag f s := by
  cases p <;> rfl

@[simp] theorem memRead_setPair (addr : Nat) (p : Pair) (v : Word) (s : State) :
    memRead addr (setPair p v s) = memRead addr s := memRead_congr (by simp) addr

/-! ### `setZspAc` -/

@[simp] theorem setZspAc_a (v : Byte) (ac : Bool) (s : State) : (setZspAc v ac s).a = s.a := rfl

@[simp] theorem setZspAc_b (v : Byte) (ac : Bool) (s : State) : (setZspAc v ac s).b = s.b := rfl

@[simp] theorem setZspAc_c (v : Byte) (ac : Bool) (s : State) : (setZspAc v ac s).c = s.c := rfl

@[simp] theorem setZspAc_d (v : Byte) (ac : Bool) (s : State) : (setZspAc v ac s).d = s.d := rfl

@[simp] theorem setZspAc_e (v : Byte) (ac : Bool) (s : State) : (setZspAc v ac s).e = s.e := rfl

@[simp] theorem setZspAc_h (v : Byte) (ac : Bool) (s : State) : (setZspAc v ac s).h = s.h := rfl

@[simp] theorem setZspAc_l (v : Byte) (ac : Bool) (s : State) : (setZspAc v ac s).l = s.l := rfl

@[simp] theorem setZspAc_sp (v : Byte) (ac : Bool) (s : State) : (setZspAc v ac s).sp = s.sp := rfl

@[simp] theorem setZspAc_pc (v : Byte) (ac : Bool) (s : State) : (setZspAc v ac s).pc = s.pc := rfl

@[simp] theorem setZspAc_mem (v : Byte) (ac : Bool) (s : State) : (setZspAc v ac s).mem = s.mem := rfl

@[simp] theorem setZspAc_run (v : Byte) (ac : Bool) (s : State) : (setZspAc v ac s).run = s.run := rfl

@[simp] theorem setZspAc_subAcRule (v : Byte) (ac : Bool) (s : State) : (setZspAc v ac s).subAcRule = s.subAcRule := rfl

@[simp] theorem setZspAc_draws (v : Byte) (ac : Bool) (s : State) : (setZspAc v ac s).draws = s.draws := rfl

@[simp] theorem getReg_setZspAc (r : Reg) (v : Byte) (ac : Bool) (s : State) : getReg r (setZspAc v ac s) = getReg r s := by cases r <;> rfl

@[simp] theorem getPair_setZspAc (p : Pair) (v : Byte) (ac : Bool) (s : State) : getPair p (setZspAc v ac s) = getPair p s := by cases p <;> rfl

@[simp] theorem memRead_setZspAc (addr : Nat) (v : Byte) (ac : Bool) (s : State) : memRead addr (setZspAc v ac s) = memRead addr s := rfl

@[simp] theorem operand_setZspAc (y : Src) (v : Byte) (ac : Bool) (s : State) : operand y (setZspAc v ac s) = operand y s := by
  rcases y with q | _
  · cases q <;> rfl
  · rfl

@[simp] theorem setZspAc_flags (v : Byte) (ac : Bool) (s : State) :
    (setZspAc v ac s).flags = { withZsp v s.flags with ac := ac } := rfl

/-! ### `setAllFlags` -/

@[simp] theorem setAllFlags_a (x : Alu8) (s : State) : (setAllFlags x s).a = s.a := rfl

@[simp] theorem setAllFlags_b (x : Alu8) (s : State) : (setAllFlags x s).b = s.b := rfl

@[simp] theorem setAllFlags_c (x : Alu8) (s : State) : (setAllFlags x s).c = s.c := rfl

@[simp] theorem setAllFlags_d (x : Alu8) (s : State) : (setAllFlags x s).d = s.d := rfl

@[simp] theorem setAllFlags_e (x : Alu8) (s : State) : (setAllFlags x s).e = s.e := rfl

@[simp] theorem setAllFlags_h (x : Alu8) (s : State) : (setAllFlags x s).h = s.h := rfl

@[simp] theorem setAllFlags_l (x : Alu8) (s : State) : (setAllFlags x s).l = s.l := rfl

@[simp] theorem setAllFlags_sp (x : Alu8) (s : State) : (setAllFlags x s).sp = s.sp := rfl

@[simp] theorem setAllFlags_pc (x : Alu8) (s : State) : (setAllFlags x s).pc = s.pc := rfl

@[simp] theorem setAllFlags_mem (x : Alu8) (s : State) : (setAllFlags x s).mem = s.mem := rfl

@[simp] theorem setAllFlags_run (x : Alu8) (s : State) : (setAllFlags x s).run = s.run := rfl

@[simp] theorem setAllFlags_subAcRule (x : Alu8) (s : State) : (setAllFlags x s).subAcRule = s.subAcRule := rfl

@[simp] theorem setAllFlags_draws (x : Alu8) (s : State) : (setAllFlags x s).draws = s.draws := rfl

@[simp] theorem getReg_setAllFlags (r : Reg) (x : Alu8) (s : State) : getReg r (setAllFlags x s) = getReg r s := by cases r <;> rfl

@[simp] theorem getPair_setAllFlags (p : Pair) (x : Alu8) (s : State) : getPair p (setAllFlags x s) = getPair p s := by cases p <;> rfl

@[simp] theorem memRead_setAllFlags (addr : Nat) (x : Alu8) (s : State) : memRead addr (setAllFlags x s) = memRead addr s := rfl

@[simp] theorem operand_setAllFlags (y : Src) (x : Alu8) (s : State) : operand y (setAllFlags x s) = operand y s := by
  rcases y with q | _
  · cases q <;> rfl
  · rfl

@[simp] theorem setAllFlags_flags (x : Alu8) (s : State) :
    (setAllFlags x s).flags = { withZsp x.r s.flags with ac := x.ac, cy := x.cy } := rfl

/-! ### `setCarry` -/

@[simp] theorem setCarry_a (cy : Bool) (s : State) : (setCarry cy s).a = s.a := rfl

@[simp] theorem setCarry_b (cy : Bool) (s : State) : (setCarry cy s).b = s.b := rfl

@[simp] theorem setCarry_c (cy : Bool) (s : State) : (setCarry cy s).c = s.c := rfl

@[simp] theorem setCarry_d (cy : Bool) (s : State) : (setCarry cy s).d = s.d := rfl

@[simp] theorem setCarry_e (cy : Bool) (s : State) : (setCarry cy s).e = s.e := rfl

@[simp] theorem setCarry_h (cy : Bool) (s : State) : (setCarry cy s).h = s.h := rfl

@[simp] theorem setCarry_l (cy : Bool) (s : State) : (setCarry cy s).l = s.l := rfl

@[simp] theorem setCarry_sp (cy : Bool) (s : State) : (setCarry cy s).sp = s.sp := rfl

@[simp] theorem setCarry_pc (cy : Bool) (s : State) : (setCarry cy s).pc = s.pc := rfl

@[simp] theorem setCarry_mem (cy : Bool) (s : State) : (setCarry cy s).mem = s.mem := rfl

@[simp] theorem setCarry_run (cy : Bool) (s : State) : (setCarry cy s).run = s.run := rfl

@[simp] theorem setCarry_subAcRule (cy : Bool) (s : State) : (setCarry cy s).subAcRule = s.subAcRule := rfl

@[simp] theorem setCarry_draws (cy : Bool) (s : State) : (setCarry cy s).draws = s.draws := rfl

@[simp] theorem getReg_setCarry (r : Reg) (cy : Bool) (s : State) : getReg r (setCarry cy s) = getReg r s := by cases r <;> rfl

@[simp] theorem getPair_setCarry (p : Pair) (cy : Bool) (s : State) : getPair p (setCarry cy s) = getPair p s := by cases p <;> rfl

@[simp] theorem memRead_setCarry (addr : Nat) (cy : Bool) (s : State) : memRead addr (setCarry cy s) = memRead addr s := rfl

@[simp] theorem operand_setCarry (y : Src) (cy : Bool) (s : State) : operand y (setCarry cy s) = operand y s := by
  rcases y with q | _
  · cases q <;> rfl
  · rfl

@[simp] theorem setCarry_flags (cy : Bool) (s : State) : (setCarry cy s).flags = { s.flags with cy := cy } := rfl

/-! ### `setMem` -/

@[simp] theorem setMem_a (m : Memory) (s : State) : (setMem m s).a = s.a := rfl

@[simp] theorem setMem_b (m : Memory) (s : State) : (setMem m s).b = s.b := rfl

@[simp] theorem setMem_c (m : Memory) (s : State) : (setMem m s).c = s.c := rfl

@[simp] theorem setMem_d (m : Memory) (s : State) : (setMem m s).d = s.d := rfl

@[simp] theorem setMem_e (m : Memory) (s : State) : (setMem m s).e = s.e := rfl

@[simp] theorem setMem_h (m : Memory) (s : State) : (setMem m s).h = s.h := rfl

@[simp] theorem setMem_l (m : Memory) (s : State) : (setMem m s).l = s.l := rfl

@[simp] theorem setMem_sp (m : Memory) (s : State) : (setMem m s).sp = s.sp := rfl

@[simp] theorem setMem_pc (m : Memory) (s : State) : (setMem m s).pc = s.pc := rfl

@[simp] theorem setMem_flags (m : Memory) (s : State) : (setMem m s).flags = s.flags := rfl

@[simp] theorem setMem_run (m : Memory) (s : State) : (setMem m s).run = s.run := rfl

@[simp] theorem setMem_subAcRule (m : Memory) (s : State) : (setMem m s).subAcRule = s.subAcRule := rfl

@[simp] theorem setMem_draws (m : Memory) (s : State) : (setMem m s).draws = s.draws := rfl

@[simp] theorem getReg_setMem (r : Reg) (m : Memory) (s : State) : getReg r (setMem m s) = getReg r s := by cases r <;> rfl

@[simp] theorem getPair_setMem (p : Pair) (m : Memory) (s : State) : getPair p (setMem m s) = getPair p s := by cases p <;> rfl

@[simp] theorem getFlag_setMem (f : Flag) (m : Memory) (s : State) : getFlag f (setMem m s) = getFlag f s := rfl

@[simp] theorem setMem_mem (m : Memory) (s : State) : (setMem m s).mem = m := rfl

/-! ### `setPc` -/

@[simp] theorem setPc_a (v : Word) (s : State) : (setPc v s).a = s.a := rfl

@[simp] theorem setPc_b (v : Word) (s : State) : (setPc v s).b = s.b := rfl

@[simp] theorem setPc_c (v : Word) (s : State) : (setPc v s).c = s.c := rfl

@[simp] theorem setPc_d (v : Word) (s : State) : (setPc v s).d = s.d := rfl

@[simp] theorem setPc_e (v : Word) (s : State) : (setPc v s).e = s.e := rfl

@[simp] theorem setPc_h (v : Word) (s : State) : (setPc v s).h = s.h := rfl

@[simp] theorem setPc_l (v : Word) (s : State) : (setPc v s).l = s.l := rfl

@[simp] theorem setPc_sp (v : Word) (s : State) : (setPc v s).sp = s.sp := rfl

@[simp] theorem setPc_flags (v : Word) (s : State) : (setPc v s).flags = s.flags := rfl

@[simp] theorem setPc_mem (v : Word) (s : State) : (setPc v s).mem = s.mem := rfl

@[simp] theorem setPc_run (v : Word) (s : State) : (setPc v s).run = s.run := rfl

@[simp] theorem setPc_subAcRule (v : Word) (s : State) : (setPc v s).subAcRule = s.subAcRule := rfl

@[simp] theorem setPc_draws (v : Word) (s : State) : (setPc v s).draws = s.draws := rfl

@[simp] theorem getReg_setPc (r : Reg) (v : Word) (s : State) : getReg r (setPc v s) = getReg r s := by cases r <;> rfl

@[simp] theorem getPair_setPc (p : Pair) (v : Word) (s : State) : getPair p (setPc v s) = getPair p s := by cases p <;> rfl

@[simp] theorem getFlag_setPc (f : Flag) (v : Word) (s : State) : getFlag f (setPc v s) = getFlag f s := rfl

@[simp] theorem memRead_setPc (addr : Nat) (v : Word) (s : State) : memRead addr (setPc v s) = memRead addr s := rfl

@[simp] theorem operand_setPc (y : Src) (v : Word) (s : State) : operand y (setPc v s) = operand y s := by
  rcases y with q | _
  · cases q <;> rfl
  · rfl

@[simp] theorem setPc_pc (v : Word) (s : State) : (setPc v s).pc = v := rfl

/-! ### `setRun` -/

@[simp] theorem setRun_a (r : RunState) (s : State) : (setRun r s).a = s.a := rfl

@[simp] theorem setRun_b (r : RunState) (s : State) : (setRun r s).b = s.b := rfl

@[simp] theorem setRun_c (r : RunState) (s : State) : (setRun r s).c = s.c := rfl

@[simp] theorem setRun_d (r : RunState) (s : State) : (setRun r s).d = s.d := rfl

@[simp] theorem setRun_e (r : RunState) (s : State) : (setRun r s).e = s.e := rfl

@[simp] theorem setRun_h (r : RunState) (s : State) : (setRun r s).h = s.h := rfl

@[simp] theorem setRun_l (r : RunState) (s : State) : (setRun r s).l = s.l := rfl

@[simp] theorem setRun_sp (r : RunState) (s : State) : (setRun r s).sp = s.sp := rfl

@[simp] theorem setRun_pc (r : RunState) (s : State) : (setRun r s).pc = s.pc := rfl

@[simp] theorem setRun_flags (r : RunState) (s : State) : (setRun r s).flags = s.flags := rfl

@[simp] theorem setRun_mem (r : RunState) (s : State) : (setRun r s).mem = s.mem := rfl

@[simp] theorem setRun_subAcRule (r : RunState) (s : State) : (setRun r s).subAcRule = s.subAcRule := rfl

@[simp] theorem setRun_draws (r : RunState) (s : State) : (setRun r s).draws = s.draws := rfl

@[simp] theorem getReg_setRun (q : Reg) (r : RunState) (s : State) : getReg q (setRun r s) = getReg q s := by cases q <;> rfl

@[simp] theorem getPair_setRun (p : Pair) (r : RunState) (s : State) : getPair p (setRun r s) = getPair p s := by cases p <;> rfl

@[simp] theorem getFlag_setRun (f : Flag) (r : RunState) (s : State) : getFlag f (setRun r s) = getFlag f s := rfl

@[simp] theorem memRead_setRun (addr : Nat) (r : RunState) (s : State) : memRead addr (setRun r s) = memRead addr s := rfl

@[simp] theorem operand_setRun (y : Src) (r : RunState) (s : State) : operand y (setRun r s) = operand y s := by
  rcases y with q | _
  · cases q <;> rfl
  · rfl

@[simp] theorem setRun_run (r : RunState) (s : State) : (setRun r s).run = r := rfl

end Sys2Proof.Machine
end

