-- ==== Sys2Proof/Laws/Ops.lean ====
section
/-! SUPPORT. What the shared operations can do, said once: the PC advance, the end of an instruction, HLT, and the value of an
8-bit operand. -/

namespace Sys2Proof.Machine

/-! ### `advance` and `finish` -/

theorem advance_of_fits {n : Nat} {s : State} (h : s.pc.toNat + 1 + n ≤ 0xFFFF) :
    advance n s = setPc (BitVec.ofNat 16 (s.pc.toNat + 1 + n)) s := by
  simp [advance, Config.maxAddress, h]

theorem advance_of_overflow {n : Nat} {s : State} (h : 0xFFFF < s.pc.toNat + 1 + n) :
    advance n s = setRun (.halted (.memoryFault (s.pc.toNat + 1 + n))) s := by
  simp [advance, Config.maxAddress, Nat.not_le.mpr h, raise]

/-- The PC advance either moves PC past the instruction, or leaves it and halts the engine. -/
theorem advance_cases (n : Nat) (s : State) :
    (s.pc.toNat + 1 + n ≤ 0xFFFF ∧ advance n s = setPc (BitVec.ofNat 16 (s.pc.toNat + 1 + n)) s) ∨
      (0xFFFF < s.pc.toNat + 1 + n ∧ advance n s = setRun (.halted (.memoryFault (s.pc.toNat + 1 + n))) s) := by
  rcases Nat.lt_or_ge 0xFFFF (s.pc.toNat + 1 + n) with h | h
  · exact .inr ⟨h, advance_of_overflow h⟩
  · exact .inl ⟨h, advance_of_fits h⟩

theorem ofNat_toNat_of_le {k : Nat} (h : k ≤ 0xFFFF) : (BitVec.ofNat 16 k).toNat = k := by
  simp only [BitVec.toNat_ofNat]
  omega

/-- An instruction whose bytes fit and whose effect leaves PC alone completes in the effect's state with PC advanced. -/
theorem finish_of_fits {n : Nat} {s t : State} (h : s.pc.toNat + 1 + n ≤ 0xFFFF) (hpc : t.pc = s.pc) :
    finish n s (.ok t) = .next (setPc (BitVec.ofNat 16 (s.pc.toNat + 1 + n)) t) := by
  rw [finish, advance_of_fits (by rwa [hpc]), hpc]

/-- A fault in the effect commits nothing (41_engine_loop.md R150). -/
@[simp] theorem finish_error (n : Nat) (s : State) (f : HaltReason) :
    finish n s (.error f) = .next (setRun (.halted f) s) := rfl

/-- The end of an instruction always answers a next state: the start with a fault recorded, the effect with PC advanced, or
the effect with PC kept and the overflow recorded. -/
theorem finish_cases (n : Nat) (s : State) (r : Except HaltReason State) :
    (∃ f, r = .error f ∧ finish n s r = .next (setRun (.halted f) s)) ∨
    (∃ t, r = .ok t ∧ t.pc.toNat + 1 + n ≤ 0xFFFF ∧
      finish n s r = .next (setPc (BitVec.ofNat 16 (t.pc.toNat + 1 + n)) t)) ∨
    (∃ t, r = .ok t ∧ 0xFFFF < t.pc.toNat + 1 + n ∧
      finish n s r = .next (setRun (.halted (.memoryFault (t.pc.toNat + 1 + n))) t)) := by
  cases r with
  | error f => exact .inl ⟨f, rfl, rfl⟩
  | ok t =>
    rcases advance_cases n t with ⟨h, ht⟩ | ⟨h, ht⟩
    · exact .inr (.inl ⟨t, rfl, h, by rw [finish, ht]⟩)
    · exact .inr (.inr ⟨t, rfl, h, by rw [finish, ht]⟩)

/-! ### HLT -/

theorem halt_of_fits {s : State} (h : s.pc.toNat + 1 ≤ 0xFFFF) :
    halt s = .next (setRun (.halted .hlt) (setPc (BitVec.ofNat 16 (s.pc.toNat + 1)) s)) := by
  simp [halt, Config.maxAddress, h]

/-- HLT at 0xFFFF: the PC is the free value. -/
theorem halt_at_top {s : State} (h : 0xFFFF < s.pc.toNat + 1) :
    halt s = .next (setRun (.halted .hlt) (setPc (Config.pcAfterTopHlt s.draws) (countDraw s))) := by
  simp [halt, Config.maxAddress, Nat.not_le.mpr h]

/-! ### Operands -/

@[simp] theorem memRead_hlAddr (s : State) : memRead (hlAddr s) s = .ok (operand .m s) := memRead_word _ s

@[simp] theorem memWrite_hlAddr (v : Byte) (s : State) :
    memWrite (hlAddr s) v s = .ok (setMem (Memory.set s.mem (hlAddr s) v) s) := memWrite_word _ v s

/-- An 8-bit operand always has its value. -/
@[simp] theorem readSrc_eq (x : Src) (s : State) : readSrc x s = .ok (operand x s) := by
  cases x with
  | reg r => rfl
  | m => exact memRead_hlAddr s

end Sys2Proof.Machine
end

