-- ==== Sys2Proof/Laws/Shape.lean ====
section
/-! SUPPORT. Every instruction is built by one of the shape builders of `Decode.lean`: a property of all 154 constructors
follows from one case per shape. -/

namespace Sys2Proof

/-- A property of every instruction, from one case per instruction shape. -/
theorem Instr.byShape {motive : Instr → Prop}
    (movReg : ∀ rd rs, motive (.movReg rd rs)) (movLoad : ∀ rd, motive (.movLoad rd))
    (movStore : ∀ rs, motive (.movStore rs)) (mviReg : ∀ rd d8, motive (.mvi (.reg rd) d8))
    (mviMem : ∀ d8, motive (.mvi .m d8)) (lxi : ∀ p d16, motive (.lxi p d16)) (stax : ∀ p, motive (.stax p))
    (ldax : ∀ p, motive (.ldax p)) (shld : ∀ a16, motive (.shld a16)) (lhld : ∀ a16, motive (.lhld a16))
    (sta : ∀ a16, motive (.sta a16)) (lda : ∀ a16, motive (.lda a16)) (inrReg : ∀ rd, motive (.inr (.reg rd)))
    (inrMem : motive (.inr .m)) (dcrReg : ∀ rd, motive (.dcr (.reg rd))) (dcrMem : motive (.dcr .m))
    (inx : ∀ p, motive (.inx p)) (dcx : ∀ p, motive (.dcx p)) (add : ∀ x, motive (.add x)) (adc : ∀ x, motive (.adc x))
    (sub : ∀ x, motive (.sub x)) (sbb : ∀ x, motive (.sbb x)) (dad : ∀ p, motive (.dad p)) (daa : motive .daa)
    (rlc : motive .rlc) (rrc : motive .rrc) (ral : motive .ral) (rar : motive .rar) (cma : motive .cma)
    (stc : motive .stc) (cmc : motive .cmc) (nop : motive .nop) (hlt : motive .hlt)
    (unimplemented : ∀ op, motive (.unimplemented op))
    (i : Instr) : motive i := by
  cases i with
  | movBB => exact movReg .b .b
  | movBC => exact movReg .b .c
  | movBD => exact movReg .b .d
  | movBE => exact movReg .b .e
  | movBH => exact movReg .b .h
  | movBL => exact movReg .b .l
  | movBA => exact movReg .b .a
  | movCB => exact movReg .c .b
  | movCC => exact movReg .c .c
  | movCD => exact movReg .c .d
  | movCE => exact movReg .c .e
  | movCH => exact movReg .c .h
  | movCL => exact movReg .c .l
  | movCA => exact movReg .c .a
  | movDB => exact movReg .d .b
  | movDC => exact movReg .d .c
  | movDD => exact movReg .d .d
  | movDE => exact movReg .d .e
  | movDH => exact movReg .d .h
  | movDL => exact movReg .d .l
  | movDA => exact movReg .d .a
  | movEB => exact movReg .e .b
  | movEC => exact movReg .e .c
  | movED => exact movReg .e .d
  | movEE => exact movReg .e .e
  | movEH => exact movReg .e .h
  | movEL => exact movReg .e .l
  | movEA => exact movReg .e .a
  | movHB => exact movReg .h .b
  | movHC => exact movReg .h .c
  | movHD => exact movReg .h .d
  | movHE => exact movReg .h .e
  | movHH => exact movReg .h .h
  | movHL => exact movReg .h .l
  | movHA => exact movReg .h .a
  | movLB => exact movReg .l .b
  | movLC => exact movReg .l .c
  | movLD => exact movReg .l .d
  | movLE => exact movReg .l .e
  | movLH => exact movReg .l .h
  | movLL => exact movReg .l .l
  | movLA => exact movReg .l .a
  | movAB => exact movReg .a .b
  | movAC => exact movReg .a .c
  | movAD => exact movReg .a .d
  | movAE => exact movReg .a .e
  | movAH => exact movReg .a .h
  | movAL => exact movReg .a .l
  | movAA => exact movReg .a .a
  | movBM => exact movLoad .b
  | movCM => exact movLoad .c
  | movDM => exact movLoad .d
  | movEM => exact movLoad .e
  | movHM => exact movLoad .h
  | movLM => exact movLoad .l
  | movAM => exact movLoad .a
  | movMB => exact movStore .b
  | movMC => exact movStore .c
  | movMD => exact movStore .d
  | movME => exact movStore .e
  | movMH => exact movStore .h
  | movML => exact movStore .l
  | movMA => exact movStore .a
  | mviB d8 => exact mviReg .b d8
  | mviC d8 => exact mviReg .c d8
  | mviD d8 => exact mviReg .d d8
  | mviE d8 => exact mviReg .e d8
  | mviH d8 => exact mviReg .h d8
  | mviL d8 => exact mviReg .l d8
  | mviA d8 => exact mviReg .a d8
  | mviM d8 => exact mviMem d8
  | lxiB d16 => exact lxi .bc d16
  | lxiD d16 => exact lxi .de d16
  | lxiH d16 => exact lxi .hl d16
  | lxiSP d16 => exact lxi .sp d16
  | staxB => exact stax .bc
  | staxD => exact stax .de
  | ldaxB => exact ldax .bc
  | ldaxD => exact ldax .de
  | shld a16 => exact shld a16
  | lhld a16 => exact lhld a16
  | sta a16 => exact sta a16
  | lda a16 => exact lda a16
  | inrB => exact inrReg .b
  | inrC => exact inrReg .c
  | inrD => exact inrReg .d
  | inrE => exact inrReg .e
  | inrH => exact inrReg .h
  | inrL => exact inrReg .l
  | inrA => exact inrReg .a
  | inrM => exact inrMem
  | dcrB => exact dcrReg .b
  | dcrC => exact dcrReg .c
  | dcrD => exact dcrReg .d
  | dcrE => exact dcrReg .e
  | dcrH => exact dcrReg .h
  | dcrL => exact dcrReg .l
  | dcrA => exact dcrReg .a
  | dcrM => exact dcrMem
  | inxB => exact inx .bc
  | inxD => exact inx .de
  | inxH => exact inx .hl
  | inxSP => exact inx .sp
  | dcxB => exact dcx .bc
  | dcxD => exact dcx .de
  | dcxH => exact dcx .hl
  | dcxSP => exact dcx .sp
  | addB => exact add (.reg .b)
  | addC => exact add (.reg .c)
  | addD => exact add (.reg .d)
  | addE => exact add (.reg .e)
  | addH => exact add (.reg .h)
  | addL => exact add (.reg .l)
  | addA => exact add (.reg .a)
  | addM => exact add .m
  | adcB => exact adc (.reg .b)
  | adcC => exact adc (.reg .c)
  | adcD => exact adc (.reg .d)
  | adcE => exact adc (.reg .e)
  | adcH => exact adc (.reg .h)
  | adcL => exact adc (.reg .l)
  | adcA => exact adc (.reg .a)
  | adcM => exact adc .m
  | subB => exact sub (.reg .b)
  | subC => exact sub (.reg .c)
  | subD => exact sub (.reg .d)
  | subE => exact sub (.reg .e)
  | subH => exact sub (.reg .h)
  | subL => exact sub (.reg .l)
  | subA => exact sub (.reg .a)
  | subM => exact sub .m
  | sbbB => exact sbb (.reg .b)
  | sbbC => exact sbb (.reg .c)
  | sbbD => exact sbb (.reg .d)
  | sbbE => exact sbb (.reg .e)
  | sbbH => exact sbb (.reg .h)
  | sbbL => exact sbb (.reg .l)
  | sbbA => exact sbb (.reg .a)
  | sbbM => exact sbb .m
  | dadB => exact dad .bc
  | dadD => exact dad .de
  | dadH => exact dad .hl
  | dadSP => exact dad .sp
  | daa => exact daa
  | rlc => exact rlc
  | rrc => exact rrc
  | ral => exact ral
  | rar => exact rar
  | cma => exact cma
  | stc => exact stc
  | cmc => exact cmc
  | nop => exact nop
  | hlt => exact hlt
  | unimplemented op => exact unimplemented op

end Sys2Proof
end

