-- ==== Sys2Proof/Laws/Exec.lean ====
section
/-! SUPPORT. What `exec` is for each instruction shape: the end of an instruction over the shape's effect. -/

namespace Sys2Proof.Machine

theorem exec_movReg (rd rs : Reg) (s : State) : exec (.movReg rd rs) s = finish 0 s (movRegEffect rd rs s) := by
  cases rd <;> cases rs <;> rfl

theorem exec_movLoad (rd : Reg) (s : State) : exec (.movLoad rd) s = finish 0 s (movLoadEffect rd s) := by
  cases rd <;> rfl

theorem exec_movStore (rs : Reg) (s : State) : exec (.movStore rs) s = finish 0 s (movStoreEffect rs s) := by
  cases rs <;> rfl

theorem exec_mviReg (rd : Reg) (d8 : Byte) (s : State) :
    exec (.mvi (.reg rd) d8) s = finish 1 s (mviRegEffect rd d8 s) := by
  cases rd <;> rfl

theorem exec_mviMem (d8 : Byte) (s : State) : exec (.mvi .m d8) s = finish 1 s (mviMemEffect d8 s) := rfl

theorem exec_lxi (p : Pair) (d16 : Word) (s : State) : exec (.lxi p d16) s = finish 2 s (lxiEffect p d16 s) := by
  cases p <;> rfl

theorem exec_stax (p : IndexPair) (s : State) : exec (.stax p) s = finish 0 s (staxEffect p.pair s) := by
  cases p <;> rfl

theorem exec_ldax (p : IndexPair) (s : State) : exec (.ldax p) s = finish 0 s (ldaxEffect p.pair s) := by
  cases p <;> rfl

theorem exec_shld (a16 : Word) (s : State) : exec (.shld a16) s = finish 2 s (shldEffect a16 s) := rfl

theorem exec_lhld (a16 : Word) (s : State) : exec (.lhld a16) s = finish 2 s (lhldEffect a16 s) := rfl

theorem exec_sta (a16 : Word) (s : State) : exec (.sta a16) s = finish 2 s (staEffect a16 s) := rfl

theorem exec_lda (a16 : Word) (s : State) : exec (.lda a16) s = finish 2 s (ldaEffect a16 s) := rfl

theorem exec_inrReg (rd : Reg) (s : State) : exec (.inr (.reg rd)) s = finish 0 s (inrRegEffect rd s) := by
  cases rd <;> rfl

theorem exec_inrMem (s : State) : exec (.inr .m) s = finish 0 s (inrMemEffect s) := rfl

theorem exec_dcrReg (rd : Reg) (s : State) : exec (.dcr (.reg rd)) s = finish 0 s (dcrRegEffect rd s) := by
  cases rd <;> rfl

theorem exec_dcrMem (s : State) : exec (.dcr .m) s = finish 0 s (dcrMemEffect s) := rfl

theorem exec_inx (p : Pair) (s : State) : exec (.inx p) s = finish 0 s (inxEffect p s) := by cases p <;> rfl

theorem exec_dcx (p : Pair) (s : State) : exec (.dcx p) s = finish 0 s (dcxEffect p s) := by cases p <;> rfl

theorem exec_add (x : Src) (s : State) : exec (.add x) s = finish 0 s (addEffect x s) := by
  rcases x with r | _
  · cases r <;> rfl
  · rfl

theorem exec_adc (x : Src) (s : State) : exec (.adc x) s = finish 0 s (adcEffect x s) := by
  rcases x with r | _
  · cases r <;> rfl
  · rfl

theorem exec_sub (x : Src) (s : State) : exec (.sub x) s = finish 0 s (subEffect x s) := by
  rcases x with r | _
  · cases r <;> rfl
  · rfl

theorem exec_sbb (x : Src) (s : State) : exec (.sbb x) s = finish 0 s (sbbEffect x s) := by
  rcases x with r | _
  · cases r <;> rfl
  · rfl

theorem exec_dad (p : Pair) (s : State) : exec (.dad p) s = finish 0 s (dadEffect p s) := by cases p <;> rfl

theorem exec_daa (s : State) : exec .daa s = finish 0 s (daaEffect s) := rfl

theorem exec_rlc (s : State) : exec .rlc s = finish 0 s (rlcEffect s) := rfl

theorem exec_rrc (s : State) : exec .rrc s = finish 0 s (rrcEffect s) := rfl

theorem exec_ral (s : State) : exec .ral s = finish 0 s (ralEffect s) := rfl

theorem exec_rar (s : State) : exec .rar s = finish 0 s (rarEffect s) := rfl

theorem exec_cma (s : State) : exec .cma s = finish 0 s (cmaEffect s) := rfl

theorem exec_stc (s : State) : exec .stc s = finish 0 s (stcEffect s) := rfl

theorem exec_cmc (s : State) : exec .cmc s = finish 0 s (cmcEffect s) := rfl

theorem exec_nop (s : State) : exec .nop s = finish 0 s (nopEffect s) := rfl

theorem exec_hlt (s : State) : exec .hlt s = halt s := rfl

theorem exec_unimplemented (op : Byte) (s : State) :
    exec (.unimplemented op) s = .next (setRun (.halted (.unimplementedOpcode s.pc op)) s) := rfl

/-! ### Effects with memory, in closed form -/

theorem shldEffect_of_lt {a16 : Word} (h : a16.toNat < 0xFFFF) (s : State) :
    shldEffect a16 s =
      .ok (setMem (Memory.set (Memory.set s.mem a16.toNat s.l) (a16.toNat + 1) s.h) s) := by
  have h1 : a16.toNat + 1 ≤ Config.maxAddress := h
  simp only [shldEffect, memWrite_word, Except.bind, memWrite_of_le h1, setMem_mem]
  rfl

theorem shldEffect_at_top {a16 : Word} (h : a16.toNat = 0xFFFF) (s : State) :
    shldEffect a16 s = .error (.memoryFault 0x10000) := by
  simp [shldEffect, Except.bind, memWrite, Config.maxAddress, h]

theorem lhldEffect_of_lt {a16 : Word} (h : a16.toNat < 0xFFFF) (s : State) :
    lhldEffect a16 s =
      .ok (setReg .l (Memory.get s.mem a16.toNat) (setReg .h (Memory.get s.mem (a16.toNat + 1)) s)) := by
  have h1 : a16.toNat + 1 ≤ Config.maxAddress := h
  simp [lhldEffect, Except.bind, Except.map, memRead_of_le h1]

theorem lhldEffect_at_top {a16 : Word} (h : a16.toNat = 0xFFFF) (s : State) :
    lhldEffect a16 s = .error (.memoryFault 0x10000) := by
  simp [lhldEffect, Except.bind, Except.map, memRead, Config.maxAddress, h]

theorem inrMemEffect_eq (s : State) :
    inrMemEffect s = .ok (setZspAc (inc8 (operand .m s)).1 (inc8 (operand .m s)).2
      (setMem (Memory.set s.mem (hlAddr s) (inc8 (operand .m s)).1) s)) := by
  simp [inrMemEffect, Except.bind, Except.map]

theorem dcrMemEffect_eq (s : State) :
    dcrMemEffect s = .ok (setZspAc (dec8 s.subAcRule (operand .m s)).1 (dec8 s.subAcRule (operand .m s)).2
      (setMem (Memory.set s.mem (hlAddr s) (dec8 s.subAcRule (operand .m s)).1) s)) := by
  simp [dcrMemEffect, Except.bind, Except.map]

end Sys2Proof.Machine
end

