-- ==== Sys2Proof/Laws/Flags.lean ====
section
/-! SUPPORT. What each function of the Flag Policy returns, in plain arithmetic, said once. -/

namespace Sys2Proof.Machine

/-! ### Result flags -/

theorem withZsp_z (v : Byte) (f : Flags) : (withZsp v f).z = decide (v.toNat = 0) := by
  have key : ∀ v : Byte, (v == 0x00#8) = decide (v.toNat = 0) := by decide
  exact key v

theorem withZsp_s (v : Byte) (f : Flags) : (withZsp v f).s = decide (0x80 ≤ v.toNat) := by
  have key : ∀ v : Byte, v.getLsbD 7 = decide (0x80 ≤ v.toNat) := by decide
  exact key v

theorem withZsp_p (v : Byte) (f : Flags) :
    (withZsp v f).p = decide ((List.range 8).countP (fun k => v.getLsbD k) % 2 = 0) := by
  have key : ∀ v : Byte, (popcount v % 2 == 0) = decide ((List.range 8).countP (fun k => v.getLsbD k) % 2 = 0) := by
    decide
  exact key v

/-! ### 8-bit arithmetic -/

theorem add8_r (a b : Byte) (cin : Bool) : (add8 a b cin).r.toNat = (a.toNat + b.toNat + cin.toNat) % 256 := by
  simp [add8]

theorem add8_cy (a b : Byte) (cin : Bool) : (add8 a b cin).cy = decide (a.toNat + b.toNat + cin.toNat > 255) := rfl

theorem add8_ac (a b : Byte) (cin : Bool) :
    (add8 a b cin).ac = decide (a.toNat % 16 + b.toNat % 16 + cin.toNat > 15) := rfl

theorem not_toNat (b : Byte) : (~~~b).toNat = 255 - b.toNat := by simp [BitVec.toNat_not]

theorem sub8_r (rule : SubAcRule) (a b : Byte) (bin : Bool) :
    (sub8 rule a b bin).r.toNat = (a.toNat + 512 - b.toNat - bin.toNat) % 256 := by
  have := a.isLt
  have := b.isLt
  have := bin.toNat_lt
  simp only [sub8, BitVec.toNat_ofNat, not_toNat]
  omega

/-- CY of a subtraction is the borrow. -/
theorem sub8_cy (rule : SubAcRule) (a b : Byte) (bin : Bool) :
    (sub8 rule a b bin).cy = decide (a.toNat < b.toNat + bin.toNat) := by
  have := a.isLt
  have := b.isLt
  have := bin.toNat_lt
  simp only [sub8, not_toNat, ← decide_not, decide_eq_decide]
  omega

theorem sub8_ac_borrow (a b : Byte) (bin : Bool) :
    (sub8 .borrow a b bin).ac = decide (a.toNat % 16 < b.toNat % 16 + bin.toNat) := rfl

theorem sub8_ac_complementAdd (a b : Byte) (bin : Bool) :
    (sub8 .complementAdd a b bin).ac = !decide (a.toNat % 16 < b.toNat % 16 + bin.toNat) := by
  have := a.isLt
  have := b.isLt
  have := bin.toNat_lt
  simp only [sub8, subAc, not_toNat, ← decide_not, decide_eq_decide]
  omega

theorem inc8_r (v : Byte) : (inc8 v).1.toNat = (v.toNat + 1) % 256 := by simp [inc8, add8]

theorem inc8_ac (v : Byte) : (inc8 v).2 = decide (v.toNat % 16 = 0xF) := by
  have key : ∀ v : Byte, (inc8 v).2 = decide (v.toNat % 16 = 0xF) := by decide
  exact key v

theorem dec8_r (rule : SubAcRule) (v : Byte) : (dec8 rule v).1.toNat = (v.toNat + 255) % 256 := by
  have h := sub8_r rule v 0x01#8 false
  simp only [BitVec.toNat_ofNat, Bool.toNat_false] at h
  rw [dec8, h]
  omega

theorem dec8_ac_complementAdd (v : Byte) : (dec8 .complementAdd v).2 = decide (v.toNat % 16 ≠ 0) := by
  have key : ∀ v : Byte, (dec8 .complementAdd v).2 = decide (v.toNat % 16 ≠ 0) := by decide
  exact key v

theorem dec8_ac_borrow (v : Byte) : (dec8 .borrow v).2 = decide (v.toNat % 16 = 0) := by
  have key : ∀ v : Byte, (dec8 .borrow v).2 = decide (v.toNat % 16 = 0) := by decide
  exact key v

/-! ### 16-bit addition -/

theorem add16_r (x y : Word) : (add16 x y).1.toNat = (x.toNat + y.toNat) % 65536 := by simp [add16]

theorem add16_cy (x y : Word) : (add16 x y).2 = decide (x.toNat + y.toNat > 0xFFFF) := rfl

end Sys2Proof.Machine
end

