-- ==== Sys2Proof/Laws/Frame.lean ====
section
/-! SUPPORT. How frames compose: the frame of each update of the state, transitivity, and the completion of an instruction. -/

namespace Sys2Proof.Machine

variable {regs : List Reg} {sp : Bool} {flags : List Flag} {stored : List Nat} {s t u : State}

theorem UnchangedExcept.refl : UnchangedExcept regs sp flags stored s s :=
  ⟨fun _ _ => rfl, fun _ => rfl, fun _ _ => rfl, fun _ _ => rfl, rfl, rfl⟩

theorem UnchangedExcept.trans (h : UnchangedExcept regs sp flags stored s t)
    (h' : UnchangedExcept regs sp flags stored t u) : UnchangedExcept regs sp flags stored s u := by
  obtain ⟨hr, hs, hf, hm, ha, hd⟩ := h
  obtain ⟨hr', hs', hf', hm', ha', hd'⟩ := h'
  exact ⟨fun r x => (hr' r x).trans (hr r x), fun x => (hs' x).trans (hs x), fun f x => (hf' f x).trans (hf f x),
    fun a x => (hm' a x).trans (hm a x), ha'.trans ha, hd'.trans hd⟩

theorem UnchangedExcept.setReg {r : Reg} (h : r ∈ regs) (v : Byte) :
    UnchangedExcept regs sp flags stored s (setReg r v s) :=
  ⟨fun q hq => getReg_setReg_of_ne (by rintro rfl; exact hq h) v s, fun _ => by simp, fun _ _ => by simp,
    fun _ _ => by simp, by simp, by simp⟩

theorem UnchangedExcept.setPair {p : Pair} (h : ∀ r ∈ pairHalves p, r ∈ regs) (hsp : p = .sp → sp = true) (v : Word) :
    UnchangedExcept regs sp flags stored s (setPair p v s) :=
  ⟨fun q hq => getReg_setPair_of_not_mem (fun e => hq (h _ e)) v s,
    fun hf => setPair_sp_of_ne (fun e => by simp [hsp e] at hf) v s, fun _ _ => by simp, fun _ _ => by simp, by simp,
    by simp⟩

/-- The frame of a write of one cell. -/
theorem UnchangedExcept.store {addr : Nat} (h : addr ∈ stored) (v : Byte) :
    UnchangedExcept regs sp flags stored s (setMem (Memory.set s.mem addr v) s) :=
  ⟨fun _ _ => by simp, fun _ => rfl, fun _ _ => by simp,
    fun a ha => memRead_set_of_ne (by rintro rfl; exact ha h) _ v s, rfl, rfl⟩

theorem UnchangedExcept.setZspAc (hz : Flag.z ∈ flags) (hs : Flag.s ∈ flags) (hp : Flag.p ∈ flags)
    (ha : Flag.ac ∈ flags) (v : Byte) (ac : Bool) :
    UnchangedExcept regs sp flags stored s (setZspAc v ac s) :=
  ⟨fun _ _ => by simp, fun _ => rfl, fun f hf => by cases f <;> first | rfl | contradiction, fun _ _ => by simp, rfl, rfl⟩

theorem UnchangedExcept.setAllFlags (h : ∀ f, f ∈ flags) (x : Alu8) :
    UnchangedExcept regs sp flags stored s (setAllFlags x s) :=
  ⟨fun _ _ => by simp, fun _ => rfl, fun f hf => absurd (h f) hf, fun _ _ => by simp, rfl, rfl⟩

theorem UnchangedExcept.setCarry (h : Flag.cy ∈ flags) (cy : Bool) :
    UnchangedExcept regs sp flags stored s (setCarry cy s) :=
  ⟨fun _ _ => by simp, fun _ => rfl, fun f hf => by cases f <;> first | rfl | contradiction, fun _ _ => by simp, rfl, rfl⟩

theorem UnchangedExcept.setPc (h : UnchangedExcept regs sp flags stored s t) (v : Word) :
    UnchangedExcept regs sp flags stored s (setPc v t) :=
  h.trans ⟨fun _ _ => by simp, fun _ => rfl, fun _ _ => by simp, fun _ _ => by simp, rfl, rfl⟩

theorem UnchangedExcept.setRun (h : UnchangedExcept regs sp flags stored s t) (r : RunState) :
    UnchangedExcept regs sp flags stored s (setRun r t) :=
  h.trans ⟨fun _ _ => by simp, fun _ => rfl, fun _ _ => by simp, fun _ _ => by simp, rfl, rfl⟩

/-- An effect that leaves the engine state alone, with PC advanced, completed. -/
theorem Completed.of_setPc {n : Nat} (h : Fits n s) (hrun : t.run = s.run) :
    Completed n s (Machine.setPc (BitVec.ofNat 16 (s.pc.toNat + 1 + n)) t) :=
  ⟨hrun, ofNat_toNat_of_le h⟩

/-- Z, S and P were written from `v`. -/
theorem ZspOf.of_withZsp {v : Byte} {f : Flags} (hz : t.flags.z = (withZsp v f).z) (hs : t.flags.s = (withZsp v f).s)
    (hp : t.flags.p = (withZsp v f).p) : ZspOf v t :=
  ⟨hz.trans (withZsp_z v f), hs.trans (withZsp_s v f), hp.trans (withZsp_p v f)⟩

/-- The first code byte is the cell at PC. -/
theorem codeBytes_head (s : State) : (codeBytes s).head? = some (Memory.get s.mem s.pc.toNat) := by
  have h : s.pc.toNat ≤ Config.maxAddress := word_le_maxAddress _
  simp [codeBytes, List.range_succ, List.filter_cons, h]

end Sys2Proof.Machine
end

