-- ==== Sys2Proof/Laws/PerInstr.lean ====
section
/-! SUPPORT. The per-instruction family `RoundTrip`: decoding what the encoder writes for a well-formed instruction gives
that instruction back, whatever bytes follow it. One lemma per constructor. -/

namespace Sys2Proof.Laws.RoundTrip

/-- Decoding the encoding of `i`, followed by any bytes, gives `i` and those bytes. -/
def Statement (i : Instr) : Prop :=
  i.wf = true → ∀ rest : List Byte, decode (encode i ++ rest) = .ok (i, rest)

theorem movBB : Statement (.movBB) := fun _ _ => rfl

theorem movBC : Statement (.movBC) := fun _ _ => rfl

theorem movBD : Statement (.movBD) := fun _ _ => rfl

theorem movBE : Statement (.movBE) := fun _ _ => rfl

theorem movBH : Statement (.movBH) := fun _ _ => rfl

theorem movBL : Statement (.movBL) := fun _ _ => rfl

theorem movBA : Statement (.movBA) := fun _ _ => rfl

theorem movCB : Statement (.movCB) := fun _ _ => rfl

theorem movCC : Statement (.movCC) := fun _ _ => rfl

theorem movCD : Statement (.movCD) := fun _ _ => rfl

theorem movCE : Statement (.movCE) := fun _ _ => rfl

theorem movCH : Statement (.movCH) := fun _ _ => rfl

theorem movCL : Statement (.movCL) := fun _ _ => rfl

theorem movCA : Statement (.movCA) := fun _ _ => rfl

theorem movDB : Statement (.movDB) := fun _ _ => rfl

theorem movDC : Statement (.movDC) := fun _ _ => rfl

theorem movDD : Statement (.movDD) := fun _ _ => rfl

theorem movDE : Statement (.movDE) := fun _ _ => rfl

theorem movDH : Statement (.movDH) := fun _ _ => rfl

theorem movDL : Statement (.movDL) := fun _ _ => rfl

theorem movDA : Statement (.movDA) := fun _ _ => rfl

theorem movEB : Statement (.movEB) := fun _ _ => rfl

theorem movEC : Statement (.movEC) := fun _ _ => rfl

theorem movED : Statement (.movED) := fun _ _ => rfl

theorem movEE : Statement (.movEE) := fun _ _ => rfl

theorem movEH : Statement (.movEH) := fun _ _ => rfl

theorem movEL : Statement (.movEL) := fun _ _ => rfl

theorem movEA : Statement (.movEA) := fun _ _ => rfl

theorem movHB : Statement (.movHB) := fun _ _ => rfl

theorem movHC : Statement (.movHC) := fun _ _ => rfl

theorem movHD : Statement (.movHD) := fun _ _ => rfl

theorem movHE : Statement (.movHE) := fun _ _ => rfl

theorem movHH : Statement (.movHH) := fun _ _ => rfl

theorem movHL : Statement (.movHL) := fun _ _ => rfl

theorem movHA : Statement (.movHA) := fun _ _ => rfl

theorem movLB : Statement (.movLB) := fun _ _ => rfl

theorem movLC : Statement (.movLC) := fun _ _ => rfl

theorem movLD : Statement (.movLD) := fun _ _ => rfl

theorem movLE : Statement (.movLE) := fun _ _ => rfl

theorem movLH : Statement (.movLH) := fun _ _ => rfl

theorem movLL : Statement (.movLL) := fun _ _ => rfl

theorem movLA : Statement (.movLA) := fun _ _ => rfl

theorem movAB : Statement (.movAB) := fun _ _ => rfl

theorem movAC : Statement (.movAC) := fun _ _ => rfl

theorem movAD : Statement (.movAD) := fun _ _ => rfl

theorem movAE : Statement (.movAE) := fun _ _ => rfl

theorem movAH : Statement (.movAH) := fun _ _ => rfl

theorem movAL : Statement (.movAL) := fun _ _ => rfl

theorem movAA : Statement (.movAA) := fun _ _ => rfl

theorem movBM : Statement (.movBM) := fun _ _ => rfl

theorem movCM : Statement (.movCM) := fun _ _ => rfl

theorem movDM : Statement (.movDM) := fun _ _ => rfl

theorem movEM : Statement (.movEM) := fun _ _ => rfl

theorem movHM : Statement (.movHM) := fun _ _ => rfl

theorem movLM : Statement (.movLM) := fun _ _ => rfl

theorem movAM : Statement (.movAM) := fun _ _ => rfl

theorem movMB : Statement (.movMB) := fun _ _ => rfl

theorem movMC : Statement (.movMC) := fun _ _ => rfl

theorem movMD : Statement (.movMD) := fun _ _ => rfl

theorem movME : Statement (.movME) := fun _ _ => rfl

theorem movMH : Statement (.movMH) := fun _ _ => rfl

theorem movML : Statement (.movML) := fun _ _ => rfl

theorem movMA : Statement (.movMA) := fun _ _ => rfl

theorem mviB (d8 : Byte) : Statement (.mviB d8) := fun _ _ => rfl

theorem mviC (d8 : Byte) : Statement (.mviC d8) := fun _ _ => rfl

theorem mviD (d8 : Byte) : Statement (.mviD d8) := fun _ _ => rfl

theorem mviE (d8 : Byte) : Statement (.mviE d8) := fun _ _ => rfl

theorem mviH (d8 : Byte) : Statement (.mviH d8) := fun _ _ => rfl

theorem mviL (d8 : Byte) : Statement (.mviL d8) := fun _ _ => rfl

theorem mviA (d8 : Byte) : Statement (.mviA d8) := fun _ _ => rfl

theorem mviM (d8 : Byte) : Statement (.mviM d8) := fun _ _ => rfl

theorem lxiB (d16 : Word) : Statement (.lxiB d16) := fun _ rest => decode_f2 rest rfl d16

theorem lxiD (d16 : Word) : Statement (.lxiD d16) := fun _ rest => decode_f2 rest rfl d16

theorem lxiH (d16 : Word) : Statement (.lxiH d16) := fun _ rest => decode_f2 rest rfl d16

theorem lxiSP (d16 : Word) : Statement (.lxiSP d16) := fun _ rest => decode_f2 rest rfl d16

theorem staxB : Statement (.staxB) := fun _ _ => rfl

theorem staxD : Statement (.staxD) := fun _ _ => rfl

theorem ldaxB : Statement (.ldaxB) := fun _ _ => rfl

theorem ldaxD : Statement (.ldaxD) := fun _ _ => rfl

theorem shld (a16 : Word) : Statement (.shld a16) := fun _ rest => decode_f2 rest rfl a16

theorem lhld (a16 : Word) : Statement (.lhld a16) := fun _ rest => decode_f2 rest rfl a16

theorem sta (a16 : Word) : Statement (.sta a16) := fun _ rest => decode_f2 rest rfl a16

theorem lda (a16 : Word) : Statement (.lda a16) := fun _ rest => decode_f2 rest rfl a16

theorem inrB : Statement (.inrB) := fun _ _ => rfl

theorem inrC : Statement (.inrC) := fun _ _ => rfl

theorem inrD : Statement (.inrD) := fun _ _ => rfl

theorem inrE : Statement (.inrE) := fun _ _ => rfl

theorem inrH : Statement (.inrH) := fun _ _ => rfl

theorem inrL : Statement (.inrL) := fun _ _ => rfl

theorem inrA : Statement (.inrA) := fun _ _ => rfl

theorem inrM : Statement (.inrM) := fun _ _ => rfl

theorem dcrB : Statement (.dcrB) := fun _ _ => rfl

theorem dcrC : Statement (.dcrC) := fun _ _ => rfl

theorem dcrD : Statement (.dcrD) := fun _ _ => rfl

theorem dcrE : Statement (.dcrE) := fun _ _ => rfl

theorem dcrH : Statement (.dcrH) := fun _ _ => rfl

theorem dcrL : Statement (.dcrL) := fun _ _ => rfl

theorem dcrA : Statement (.dcrA) := fun _ _ => rfl

theorem dcrM : Statement (.dcrM) := fun _ _ => rfl

theorem inxB : Statement (.inxB) := fun _ _ => rfl

theorem inxD : Statement (.inxD) := fun _ _ => rfl

theorem inxH : Statement (.inxH) := fun _ _ => rfl

theorem inxSP : Statement (.inxSP) := fun _ _ => rfl

theorem dcxB : Statement (.dcxB) := fun _ _ => rfl

theorem dcxD : Statement (.dcxD) := fun _ _ => rfl

theorem dcxH : Statement (.dcxH) := fun _ _ => rfl

theorem dcxSP : Statement (.dcxSP) := fun _ _ => rfl

theorem addB : Statement (.addB) := fun _ _ => rfl

theorem addC : Statement (.addC) := fun _ _ => rfl

theorem addD : Statement (.addD) := fun _ _ => rfl

theorem addE : Statement (.addE) := fun _ _ => rfl

theorem addH : Statement (.addH) := fun _ _ => rfl

theorem addL : Statement (.addL) := fun _ _ => rfl

theorem addA : Statement (.addA) := fun _ _ => rfl

theorem addM : Statement (.addM) := fun _ _ => rfl

theorem adcB : Statement (.adcB) := fun _ _ => rfl

theorem adcC : Statement (.adcC) := fun _ _ => rfl

theorem adcD : Statement (.adcD) := fun _ _ => rfl

theorem adcE : Statement (.adcE) := fun _ _ => rfl

theorem adcH : Statement (.adcH) := fun _ _ => rfl

theorem adcL : Statement (.adcL) := fun _ _ => rfl

theorem adcA : Statement (.adcA) := fun _ _ => rfl

theorem adcM : Statement (.adcM) := fun _ _ => rfl

theorem subB : Statement (.subB) := fun _ _ => rfl

theorem subC : Statement (.subC) := fun _ _ => rfl

theorem subD : Statement (.subD) := fun _ _ => rfl

theorem subE : Statement (.subE) := fun _ _ => rfl

theorem subH : Statement (.subH) := fun _ _ => rfl

theorem subL : Statement (.subL) := fun _ _ => rfl

theorem subA : Statement (.subA) := fun _ _ => rfl

theorem subM : Statement (.subM) := fun _ _ => rfl

theorem sbbB : Statement (.sbbB) := fun _ _ => rfl

theorem sbbC : Statement (.sbbC) := fun _ _ => rfl

theorem sbbD : Statement (.sbbD) := fun _ _ => rfl

theorem sbbE : Statement (.sbbE) := fun _ _ => rfl

theorem sbbH : Statement (.sbbH) := fun _ _ => rfl

theorem sbbL : Statement (.sbbL) := fun _ _ => rfl

theorem sbbA : Statement (.sbbA) := fun _ _ => rfl

theorem sbbM : Statement (.sbbM) := fun _ _ => rfl

theorem dadB : Statement (.dadB) := fun _ _ => rfl

theorem dadD : Statement (.dadD) := fun _ _ => rfl

theorem dadH : Statement (.dadH) := fun _ _ => rfl

theorem dadSP : Statement (.dadSP) := fun _ _ => rfl

theorem daa : Statement (.daa) := fun _ _ => rfl

theorem rlc : Statement (.rlc) := fun _ _ => rfl

theorem rrc : Statement (.rrc) := fun _ _ => rfl

theorem ral : Statement (.ral) := fun _ _ => rfl

theorem rar : Statement (.rar) := fun _ _ => rfl

theorem cma : Statement (.cma) := fun _ _ => rfl

theorem stc : Statement (.stc) := fun _ _ => rfl

theorem cmc : Statement (.cmc) := fun _ _ => rfl

theorem nop : Statement (.nop) := fun _ _ => rfl

theorem hlt : Statement (.hlt) := fun _ _ => rfl

theorem unimplemented (op : Byte) : Statement (.unimplemented op) := fun h rest => by
  simp [encode, decode, decodeOpcode_unimplemented op h]

end Sys2Proof.Laws.RoundTrip
end

