-- ==== Sys2Proof/Laws/Step.lean ====
section
/-! SUPPORT. What fetching and a step can do, and what storing a program's bytes does to memory, said once. -/

namespace Sys2Proof.Machine

/-! ### Fetching -/

/-- The bytes at PC, by how far the address space reaches. -/
theorem codeBytes_cases (s : State) :
    (s.pc.toNat + 2 ≤ 0xFFFF ∧ codeBytes s = [Memory.get s.mem s.pc.toNat, Memory.get s.mem (s.pc.toNat + 1),
      Memory.get s.mem (s.pc.toNat + 2)]) ∨
    (s.pc.toNat = 0xFFFE ∧ codeBytes s = [Memory.get s.mem s.pc.toNat, Memory.get s.mem (s.pc.toNat + 1)]) ∨
    (s.pc.toNat = 0xFFFF ∧ codeBytes s = [Memory.get s.mem s.pc.toNat]) := by
  have hpc := s.pc.isLt
  have range : List.range 3 = [0, 1, 2] := rfl
  rcases (by omega : s.pc.toNat + 2 ≤ 0xFFFF ∨ s.pc.toNat = 0xFFFE ∨ s.pc.toNat = 0xFFFF) with h | h | h
  · refine .inl ⟨h, ?_⟩
    simp [codeBytes, range, Config.maxAddress, (by omega : s.pc.toNat ≤ 65535), (by omega : s.pc.toNat + 1 ≤ 65535), h]
  · exact .inr (.inl ⟨h, by simp [codeBytes, range, Config.maxAddress, h]⟩)
  · exact .inr (.inr ⟨h, by simp [codeBytes, range, Config.maxAddress, h]⟩)

/-- Fetching decodes the bytes at PC; where they hold no whole instruction, its operand lies past 0xFFFF. -/
theorem fetch_eq (s : State) :
    fetch s = match decode (codeBytes s) with
      | .ok (i, _) => .ok i
      | .error _ => .error (.memoryFault 0x10000) := by
  rw [fetch, memRead_word]
  rcases codeBytes_cases s with ⟨h, hc⟩ | ⟨h, hc⟩ | ⟨h, hc⟩ <;> rw [hc]
  · rw [memRead_of_le (addr := s.pc.toNat + 1) (by simp only [Config.maxAddress]; omega),
      memRead_of_le (addr := s.pc.toNat + 2) h]
    cases hd : decodeOpcode (Memory.get s.mem s.pc.toNat) <;> simp [decode, hd, Except.bind, Except.map]
  · rw [memRead_of_le (addr := s.pc.toNat + 1) (by simp only [Config.maxAddress]; omega),
      memRead_of_gt (addr := s.pc.toNat + 2) (by simp only [Config.maxAddress]; omega),
      (by omega : s.pc.toNat + 2 = 0x10000)]
    cases hd : decodeOpcode (Memory.get s.mem s.pc.toNat) <;> simp [decode, hd, Except.bind, Except.map]
  · rw [memRead_of_gt (addr := s.pc.toNat + 1) (by simp only [Config.maxAddress]; omega),
      (by omega : s.pc.toNat + 1 = 0x10000)]
    cases hd : decodeOpcode (Memory.get s.mem s.pc.toNat) <;> simp [decode, hd, Except.bind, Except.map]

/-! ### A step -/

theorem step_of_fetching {s : State} (h : s.run = .fetching) :
    step s = match fetch s with
      | .error f => .next (setRun (.halted f) s)
      | .ok i => exec i s := by
  rw [step, h]
  rfl

theorem step_of_halted {s : State} {reason : HaltReason} (h : s.run = .halted reason) :
    step s = .fault (.engineHalted reason) := by rw [step, h]

/-! ### Storing a program -/

/-- Storing bytes inside the address space keeps memory canonical. -/
theorem Memory.wf_storeBytes {m : Memory} {addr : Nat} {bytes : List Byte} (h : Memory.wf m)
    (hb : addr + bytes.length ≤ Config.maxAddress + 1) : Memory.wf (storeBytes m addr bytes) := by
  induction bytes generalizing m addr with
  | nil => exact h
  | cons v rest ih =>
    simp only [List.length_cons] at hb
    exact ih (Memory.wf_set h (by omega) v) (by omega)

/-- Reading any cell after storing bytes. -/
theorem Memory.get_storeBytes (m : Memory) (addr a : Nat) (bytes : List Byte) :
    Memory.get (storeBytes m addr bytes) a =
      if addr ≤ a ∧ a < addr + bytes.length then bytes.getD (a - addr) Config.blankByte else Memory.get m a := by
  induction bytes generalizing m addr with
  | nil => simp [storeBytes]
  | cons v rest ih =>
    rw [storeBytes, ih, Memory.get_set, List.length_cons]
    rcases Nat.lt_trichotomy a addr with h | h | h
    · rw [if_neg (by omega), if_neg (by omega), if_neg (by omega)]
    · subst h
      rw [if_neg (by omega), if_pos rfl, if_pos (by omega)]
      simp
    · obtain ⟨d, rfl⟩ := Nat.exists_eq_add_of_lt h
      by_cases hd : addr + d + 1 < addr + (rest.length + 1)
      · rw [if_pos (by omega), if_pos (by omega), (by omega : addr + d + 1 - (addr + 1) = d),
          (by omega : addr + d + 1 - addr = d + 1), List.getD_cons_succ]
      · rw [if_neg (by omega), if_neg (by omega), if_neg (by omega)]

/-- A session just created has a canonical memory. -/
theorem State.wf_create (init : InitRegs) (rule : SubAcRule) : Memory.wf (State.create init rule).mem := Memory.wf_nil

end Sys2Proof.Machine
end

