-- ==== Sys2Proof/Tests/Slice0.lean ====
section
/-! SUPPORT. The model's own tests: well-formedness, the opcode map, one step per row of 95_test_vectors.md part 2, load, and a
witness for the hypotheses of each statement. Every expected value is the spec's. -/

namespace Sys2Proof.Machine

/-! ### Helpers -/

/-- A state with PC at `at_` and the bytes `code` there. -/
def placed (at_ : Word) (code : List Byte) (s : State) : State :=
  { s with pc := at_, mem := storeBytes s.mem at_.toNat code }

/-- Whether a step from `s` gives exactly the state `t`. -/
def stepsTo (s t : State) : Bool :=
  match step s with
  | .next u => u == t
  | .fault _ => false
  | .refused _ => false

/-- One row of 95_test_vectors.md part 2: the step from the row's start gives the start with the row's changes, all else kept. -/
def row (at_ : Word) (code : List Byte) (s : State) (change : State → State) : Bool :=
  stepsTo (placed at_ code s) (change (placed at_ code s))

/-- The instruction an opcode decodes to, with the operand bytes 0x34 and 0x12. -/
def decoded (op : Byte) : Option Instr :=
  match decode [op, 0x34#8, 0x12#8] with
  | .ok (i, _) => some i
  | .error _ => none

/-- The engine state after one step. -/
def runAfter (s : State) : Option RunState :=
  match step s with
  | .next t => some t.run
  | .fault _ => none
  | .refused _ => none

/-- The start state of the rows under `SUB_AC_RULE = borrow`. -/
def borrowReset : State := State.create Config.zeroInit .borrow

/-! ### Well-formedness -/

theorem test_wf_refuses_unimplemented_with_an_implemented_opcode : Instr.wf (.unimplemented 0x00#8) = false := by decide

theorem test_wf_accepts_unimplemented_jmp : Instr.wf (.unimplemented 0xC3#8) = true := by decide

/-! ### The opcode map (30_encoding.md R97), one theorem per row; `0x34` and `0x12` follow the opcode -/

theorem test_decode_row_0x : ((List.range 16).map (fun k => decoded (BitVec.ofNat 8 (0x00 + k)))) =
    [ some .nop, some (.lxiB 0x1234#16), some .staxB, some .inxB, some .inrB, some .dcrB, some (.mviB 0x34#8), some .rlc,
      some (.unimplemented 0x08#8), some .dadB, some .ldaxB, some .dcxB, some .inrC, some .dcrC, some (.mviC 0x34#8),
      some .rrc ] := by decide

theorem test_decode_row_1x : ((List.range 16).map (fun k => decoded (BitVec.ofNat 8 (0x10 + k)))) =
    [ some (.unimplemented 0x10#8), some (.lxiD 0x1234#16), some .staxD, some .inxD, some .inrD, some .dcrD,
      some (.mviD 0x34#8), some .ral, some (.unimplemented 0x18#8), some .dadD, some .ldaxD, some .dcxD, some .inrE,
      some .dcrE, some (.mviE 0x34#8), some .rar ] := by decide

theorem test_decode_row_2x : ((List.range 16).map (fun k => decoded (BitVec.ofNat 8 (0x20 + k)))) =
    [ some (.unimplemented 0x20#8), some (.lxiH 0x1234#16), some (.shld 0x1234#16), some .inxH, some .inrH, some .dcrH,
      some (.mviH 0x34#8), some .daa, some (.unimplemented 0x28#8), some .dadH, some (.lhld 0x1234#16), some .dcxH,
      some .inrL, some .dcrL, some (.mviL 0x34#8), some .cma ] := by decide

theorem test_decode_row_3x : ((List.range 16).map (fun k => decoded (BitVec.ofNat 8 (0x30 + k)))) =
    [ some (.unimplemented 0x30#8), some (.lxiSP 0x1234#16), some (.sta 0x1234#16), some .inxSP, some .inrM, some .dcrM,
      some (.mviM 0x34#8), some .stc, some (.unimplemented 0x38#8), some .dadSP, some (.lda 0x1234#16), some .dcxSP,
      some .inrA, some .dcrA, some (.mviA 0x34#8), some .cmc ] := by decide

theorem test_decode_row_4x : ((List.range 16).map (fun k => decoded (BitVec.ofNat 8 (0x40 + k)))) =
    [ some .movBB, some .movBC, some .movBD, some .movBE, some .movBH, some .movBL, some .movBM, some .movBA,
      some .movCB, some .movCC, some .movCD, some .movCE, some .movCH, some .movCL, some .movCM, some .movCA ] := by decide

theorem test_decode_row_5x : ((List.range 16).map (fun k => decoded (BitVec.ofNat 8 (0x50 + k)))) =
    [ some .movDB, some .movDC, some .movDD, some .movDE, some .movDH, some .movDL, some .movDM, some .movDA,
      some .movEB, some .movEC, some .movED, some .movEE, some .movEH, some .movEL, some .movEM, some .movEA ] := by decide

theorem test_decode_row_6x : ((List.range 16).map (fun k => decoded (BitVec.ofNat 8 (0x60 + k)))) =
    [ some .movHB, some .movHC, some .movHD, some .movHE, some .movHH, some .movHL, some .movHM, some .movHA,
      some .movLB, some .movLC, some .movLD, some .movLE, some .movLH, some .movLL, some .movLM, some .movLA ] := by decide

theorem test_decode_row_7x : ((List.range 16).map (fun k => decoded (BitVec.ofNat 8 (0x70 + k)))) =
    [ some .movMB, some .movMC, some .movMD, some .movME, some .movMH, some .movML, some .hlt, some .movMA, some .movAB,
      some .movAC, some .movAD, some .movAE, some .movAH, some .movAL, some .movAM, some .movAA ] := by decide

theorem test_decode_row_8x : ((List.range 16).map (fun k => decoded (BitVec.ofNat 8 (0x80 + k)))) =
    [ some .addB, some .addC, some .addD, some .addE, some .addH, some .addL, some .addM, some .addA, some .adcB,
      some .adcC, some .adcD, some .adcE, some .adcH, some .adcL, some .adcM, some .adcA ] := by decide

theorem test_decode_row_9x : ((List.range 16).map (fun k => decoded (BitVec.ofNat 8 (0x90 + k)))) =
    [ some .subB, some .subC, some .subD, some .subE, some .subH, some .subL, some .subM, some .subA, some .sbbB,
      some .sbbC, some .sbbD, some .sbbE, some .sbbH, some .sbbL, some .sbbM, some .sbbA ] := by decide

theorem test_decode_row_Ax : ((List.range 16).map (fun k => BitVec.ofNat 8 (0xA0 + k))).all
    (fun op => decoded op == some (.unimplemented op)) = true := by decide

theorem test_decode_row_Bx : ((List.range 16).map (fun k => BitVec.ofNat 8 (0xB0 + k))).all
    (fun op => decoded op == some (.unimplemented op)) = true := by decide

theorem test_decode_row_Cx : ((List.range 16).map (fun k => BitVec.ofNat 8 (0xC0 + k))).all
    (fun op => decoded op == some (.unimplemented op)) = true := by decide

theorem test_decode_row_Dx : ((List.range 16).map (fun k => BitVec.ofNat 8 (0xD0 + k))).all
    (fun op => decoded op == some (.unimplemented op)) = true := by decide

theorem test_decode_row_Ex : ((List.range 16).map (fun k => BitVec.ofNat 8 (0xE0 + k))).all
    (fun op => decoded op == some (.unimplemented op)) = true := by decide

theorem test_decode_row_Fx : ((List.range 16).map (fun k => BitVec.ofNat 8 (0xF0 + k))).all
    (fun op => decoded op == some (.unimplemented op)) = true := by decide

/-! ### Words written out bit by bit, one per family, and byte lists with no whole instruction -/

theorem test_bits_mov_a_m : decode [0b01111110#8] = .ok (.movAM, []) := by rfl

theorem test_bits_lhld : decode [0b00101010#8, 0b00000000#8, 0b00100000#8] = .ok (.lhld 0x2000#16, []) := by rfl

theorem test_bits_dcr_e : decode [0b00011101#8] = .ok (.dcrE, []) := by rfl

theorem test_bits_adc_d : decode [0b10001010#8] = .ok (.adcD, []) := by rfl

theorem test_bits_ral : decode [0b00010111#8] = .ok (.ral, []) := by rfl

theorem test_bits_cma : decode [0b00101111#8] = .ok (.cma, []) := by rfl

theorem test_bits_nop : decode [0b00000000#8] = .ok (.nop, []) := by rfl

theorem test_decode_empty : decode [] = .error .noOpcode := by rfl

theorem test_decode_missing_operand : decode [0x3A#8, 0x00#8] = .error (.missingOperand 0x3A#8) := by rfl

theorem test_table_word_of_one_byte : decodeTableWord 8 0x3A = some (.lda 0x0000#16) := by decide

theorem test_table_word_of_three_bytes : decodeTableWord 24 0x200022 = some (.shld 0x2000#16) := by decide

/-- Placed after reset, a word runs as the very next step: `MVI A,0x42` (95_test_vectors.md S6). -/
theorem test_fetch_word_runs_next :
    stepsTo (State.reset.withFetchWord 16 0x423E)
      { State.reset.withFetchWord 16 0x423E with a := 0x42#8, pc := 0x0002#16 } = true := by decide

/-- Placed at 0xFFFF, an instruction that does not fit there stands at 0x0000. -/
theorem test_fetch_word_at_the_top :
    runAfter (State.withFetchWord { State.reset with pc := 0xFFFF#16 } 24 0x300032) = some .fetching := by decide

theorem test_text_of_mvi : Instr.asm (.mviA 0x42#8) = "MVI A,0x42" := by decide

/-! ### 95_test_vectors.md part 2: Data move (42_data_move.md) -/

theorem test_mov_b_c :
    row 0x0100#16 [0x41#8] { State.reset with b := 0x11#8, c := 0x22#8 }
      (fun s => { s with b := 0x22#8, pc := 0x0101#16 }) = true := by decide

theorem test_mov_a_a :
    row 0x0100#16 [0x7F#8] { State.reset with a := 0x5A#8 } (fun s => { s with pc := 0x0101#16 }) = true := by decide

theorem test_mov_e_m :
    row 0x0100#16 [0x5E#8] { State.reset with h := 0x20#8, l := 0x00#8, mem := storeBytes [] 0x2000 [0x99#8] }
      (fun s => { s with e := 0x99#8, pc := 0x0101#16 }) = true := by decide

theorem test_mov_m_a :
    (row 0x0100#16 [0x77#8] { State.reset with a := 0x3C#8, h := 0x20#8, l := 0x10#8 }
       (fun s => { s with mem := Memory.set s.mem 0x2010 0x3C#8, pc := 0x0101#16 }) &&
     row 0x0100#16 [0x77#8] { State.reset with a := 0x42#8, h := 0xFF#8, l := 0xFF#8 }
       (fun s => { s with mem := Memory.set s.mem 0xFFFF 0x42#8, pc := 0x0101#16 })) = true := by decide

theorem test_mov_m_h :
    row 0x0100#16 [0x74#8] { State.reset with h := 0x20#8, l := 0x20#8 }
      (fun s => { s with mem := Memory.set s.mem 0x2020 0x20#8, pc := 0x0101#16 }) = true := by decide

theorem test_mov_l_m :
    row 0x0100#16 [0x6E#8] { State.reset with h := 0x30#8, l := 0x40#8, mem := storeBytes [] 0x3040 [0x7E#8] }
      (fun s => { s with l := 0x7E#8, pc := 0x0101#16 }) = true := by decide

theorem test_mvi_c :
    row 0x0100#16 [0x0E#8, 0xAB#8] State.reset (fun s => { s with c := 0xAB#8, pc := 0x0102#16 }) = true := by decide

theorem test_mvi_m :
    row 0x0100#16 [0x36#8, 0x5C#8] { State.reset with h := 0x12#8, l := 0x34#8 }
      (fun s => { s with mem := Memory.set s.mem 0x1234 0x5C#8, pc := 0x0102#16 }) = true := by decide

theorem test_mvi_a :
    (row 0x0100#16 [0x3E#8, 0x00#8] { State.reset with a := 0x55#8 } (fun s => { s with a := 0x00#8, pc := 0x0102#16 }) &&
     row 0xFFFF#16 [0x3E#8] State.reset (fun s => { s with run := .halted (.memoryFault 0x10000) })) = true := by decide

theorem test_mvi_b :
    row 0xFFFE#16 [0x06#8, 0x07#8] State.reset (fun s => { s with b := 0x07#8, run := .halted (.memoryFault 0x10000) })
      = true := by decide

/-! ### 95_test_vectors.md part 2: Register-pair load/store (43_load_store.md) -/

theorem test_lxi_b :
    (row 0x0100#16 [0x01#8, 0x03#8, 0x05#8] State.reset (fun s => { s with b := 0x05#8, c := 0x03#8, pc := 0x0103#16 }) &&
     row 0xFFFE#16 [0x01#8, 0x34#8] State.reset (fun s => { s with run := .halted (.memoryFault 0x10000) }))
      = true := by decide

theorem test_lxi_sp :
    row 0x0100#16 [0x31#8, 0xFE#8, 0xFF#8] State.reset (fun s => { s with sp := 0xFFFE#16, pc := 0x0103#16 })
      = true := by decide

theorem test_lxi_h :
    row 0x0100#16 [0x21#8, 0x00#8, 0x00#8] { State.reset with h := 0x12#8, l := 0x34#8 }
      (fun s => { s with h := 0x00#8, l := 0x00#8, pc := 0x0103#16 }) = true := by decide

theorem test_stax_b :
    row 0x0100#16 [0x02#8] { State.reset with a := 0x77#8, b := 0x40#8, c := 0x00#8 }
      (fun s => { s with mem := Memory.set s.mem 0x4000 0x77#8, pc := 0x0101#16 }) = true := by decide

theorem test_stax_d :
    row 0x0100#16 [0x12#8] { State.reset with a := 0x88#8, d := 0x40#8, e := 0x01#8 }
      (fun s => { s with mem := Memory.set s.mem 0x4001 0x88#8, pc := 0x0101#16 }) = true := by decide

theorem test_ldax_b :
    row 0x0100#16 [0x0A#8] { State.reset with b := 0x40#8, c := 0x02#8, mem := storeBytes [] 0x4002 [0xC4#8] }
      (fun s => { s with a := 0xC4#8, pc := 0x0101#16 }) = true := by decide

theorem test_ldax_d :
    row 0x0100#16 [0x1A#8] { State.reset with d := 0x00#8, e := 0x00#8, mem := storeBytes [] 0x0000 [0xAA#8] }
      (fun s => { s with a := 0xAA#8, pc := 0x0101#16 }) = true := by decide

theorem test_shld :
    (row 0x0100#16 [0x22#8, 0x00#8, 0x20#8] { State.reset with h := 0xAE#8, l := 0x29#8 }
       (fun s => { s with mem := Memory.set (Memory.set s.mem 0x2000 0x29#8) 0x2001 0xAE#8, pc := 0x0103#16 }) &&
     row 0x0100#16 [0x22#8, 0xFF#8, 0xFF#8] { State.reset with h := 0x12#8, l := 0x34#8 }
       (fun s => { s with run := .halted (.memoryFault 0x10000) })) = true := by decide

theorem test_lhld :
    (row 0x0100#16 [0x2A#8, 0x00#8, 0x20#8] { State.reset with mem := storeBytes [] 0x2000 [0x29#8, 0xAE#8] }
       (fun s => { s with h := 0xAE#8, l := 0x29#8, pc := 0x0103#16 }) &&
     row 0x0100#16 [0x2A#8, 0xFF#8, 0xFF#8] { State.reset with mem := storeBytes [] 0xFFFF [0x55#8] }
       (fun s => { s with run := .halted (.memoryFault 0x10000) })) = true := by decide

theorem test_sta :
    (row 0x0100#16 [0x32#8, 0x00#8, 0x30#8] { State.reset with a := 0x5D#8 }
       (fun s => { s with mem := Memory.set s.mem 0x3000 0x5D#8, pc := 0x0103#16 }) &&
     row 0x0100#16 [0x32#8, 0xFF#8, 0xFF#8] { State.reset with a := 0x66#8 }
       (fun s => { s with mem := Memory.set s.mem 0xFFFF 0x66#8, pc := 0x0103#16 }) &&
     row 0x0100#16 [0x32#8, 0x02#8, 0x01#8] { State.reset with a := 0x99#8 }
       (fun s => { s with mem := Memory.set s.mem 0x0102 0x99#8, pc := 0x0103#16 })) = true := by decide

theorem test_lda :
    (row 0x0100#16 [0x3A#8, 0x00#8, 0x30#8] { State.reset with mem := storeBytes [] 0x3000 [0xE7#8] }
       (fun s => { s with a := 0xE7#8, pc := 0x0103#16 }) &&
     row 0x0100#16 [0x3A#8, 0x00#8, 0x01#8] State.reset (fun s => { s with a := 0x3A#8, pc := 0x0103#16 }))
      = true := by decide

theorem test_lxi_d :
    row 0xFFFD#16 [0x11#8, 0x34#8, 0x12#8] State.reset
      (fun s => { s with d := 0x12#8, e := 0x34#8, run := .halted (.memoryFault 0x10000) }) = true := by decide

/-! ### 95_test_vectors.md part 2: Increment/decrement (44_inc_dec.md) -/

theorem test_inr_a :
    row 0x0100#16 [0x3C#8] { State.reset with a := 0x42#8 } (fun s => { s with a := 0x43#8, pc := 0x0101#16 })
      = true := by decide

theorem test_inr_b :
    row 0x0100#16 [0x04#8] { State.reset with b := 0xFF#8, flags := ⟨false, false, false, false, true⟩ }
      (fun s => { s with b := 0x00#8, flags := ⟨true, false, true, true, true⟩, pc := 0x0101#16 }) = true := by decide

theorem test_inr_c :
    row 0x0100#16 [0x0C#8] { State.reset with c := 0x0F#8 }
      (fun s => { s with c := 0x10#8, flags := ⟨false, false, false, true, false⟩, pc := 0x0101#16 })
      = true := by decide

theorem test_inr_d :
    row 0x0100#16 [0x14#8] { State.reset with d := 0x7F#8 }
      (fun s => { s with d := 0x80#8, flags := ⟨false, true, false, true, false⟩, pc := 0x0101#16 }) = true := by decide

theorem test_inr_m :
    row 0x0100#16 [0x34#8] { State.reset with h := 0x20#8, l := 0x00#8, mem := storeBytes [] 0x2000 [0x3F#8] }
      (fun s => { s with mem := Memory.set s.mem 0x2000 0x40#8, flags := ⟨false, false, false, true, false⟩, pc := 0x0101#16 })
      = true := by decide

theorem test_dcr_c :
    (row 0x0100#16 [0x0D#8] { State.reset with c := 0x00#8 }
       (fun s => { s with c := 0xFF#8, flags := ⟨false, true, true, false, false⟩, pc := 0x0101#16 }) &&
     row 0x0100#16 [0x0D#8] { State.reset with c := 0x10#8 }
       (fun s => { s with c := 0x0F#8, flags := ⟨false, false, true, false, false⟩, pc := 0x0101#16 }))
      = true := by decide

theorem test_dcr_e :
    row 0x0100#16 [0x1D#8] { State.reset with e := 0x01#8 }
      (fun s => { s with e := 0x00#8, flags := ⟨true, false, true, true, false⟩, pc := 0x0101#16 }) = true := by decide

theorem test_dcr_a :
    row 0x0100#16 [0x3D#8] { State.reset with a := 0x80#8, flags := ⟨false, false, false, false, true⟩ }
      (fun s => { s with a := 0x7F#8, pc := 0x0101#16 }) = true := by decide

theorem test_dcr_m :
    row 0x0100#16 [0x35#8] { State.reset with h := 0x20#8, l := 0x00#8 }
      (fun s => { s with mem := Memory.set s.mem 0x2000 0xFF#8, flags := ⟨false, true, true, false, false⟩, pc := 0x0101#16 })
      = true := by decide

theorem test_inx_b :
    row 0x0100#16 [0x03#8] { State.reset with b := 0x00#8, c := 0xFF#8 }
      (fun s => { s with b := 0x01#8, c := 0x00#8, pc := 0x0101#16 }) = true := by decide

theorem test_inx_h :
    row 0x0100#16 [0x23#8] { State.reset with h := 0xFF#8, l := 0xFF#8 }
      (fun s => { s with h := 0x00#8, l := 0x00#8, pc := 0x0101#16 }) = true := by decide

theorem test_inx_sp :
    row 0x0100#16 [0x33#8] { State.reset with sp := 0xFFFF#16 } (fun s => { s with sp := 0x0000#16, pc := 0x0101#16 })
      = true := by decide

theorem test_dcx_d :
    row 0x0100#16 [0x1B#8] { State.reset with d := 0x01#8, e := 0x00#8 }
      (fun s => { s with d := 0x00#8, e := 0xFF#8, pc := 0x0101#16 }) = true := by decide

theorem test_dcx_sp :
    row 0x0100#16 [0x3B#8] { State.reset with sp := 0x0000#16 } (fun s => { s with sp := 0xFFFF#16, pc := 0x0101#16 })
      = true := by decide

theorem test_dcx_b :
    row 0x0100#16 [0x0B#8] { State.reset with b := 0x00#8, c := 0x00#8, flags := ⟨true, false, false, false, false⟩ }
      (fun s => { s with b := 0xFF#8, c := 0xFF#8, pc := 0x0101#16 }) = true := by decide

/-! ### 95_test_vectors.md part 2: Arithmetic (45_arithmetic.md) -/

theorem test_add_b :
    row 0x0100#16 [0x80#8] { State.reset with a := 0x2E#8, b := 0x74#8 }
      (fun s => { s with a := 0xA2#8, flags := ⟨false, true, false, true, false⟩, pc := 0x0101#16 }) = true := by decide

theorem test_add_a :
    row 0x0100#16 [0x87#8] { State.reset with a := 0x80#8 }
      (fun s => { s with a := 0x00#8, flags := ⟨true, false, true, false, true⟩, pc := 0x0101#16 }) = true := by decide

theorem test_add_c :
    row 0x0100#16 [0x81#8] { State.reset with a := 0x0F#8, c := 0x01#8 }
      (fun s => { s with a := 0x10#8, flags := ⟨false, false, false, true, false⟩, pc := 0x0101#16 })
      = true := by decide

theorem test_add_m :
    row 0x0100#16 [0x86#8]
      { State.reset with a := 0x01#8, h := 0x20#8, l := 0x00#8, mem := storeBytes [] 0x2000 [0xFF#8] }
      (fun s => { s with a := 0x00#8, flags := ⟨true, false, true, true, true⟩, pc := 0x0101#16 }) = true := by decide

theorem test_adc_c :
    row 0x0100#16 [0x89#8] { State.reset with a := 0x3D#8, c := 0x42#8, flags := ⟨false, false, false, false, true⟩ }
      (fun s => { s with a := 0x80#8, flags := ⟨false, true, false, true, false⟩, pc := 0x0101#16 }) = true := by decide

theorem test_adc_a :
    row 0x0100#16 [0x8F#8] { State.reset with a := 0xFF#8, flags := ⟨false, false, false, false, true⟩ }
      (fun s => { s with flags := ⟨false, true, true, true, true⟩, pc := 0x0101#16 }) = true := by decide

theorem test_adc_d :
    row 0x0100#16 [0x8A#8] { State.reset with a := 0x0E#8, d := 0x01#8, flags := ⟨false, false, false, false, true⟩ }
      (fun s => { s with a := 0x10#8, flags := ⟨false, false, false, true, false⟩, pc := 0x0101#16 })
      = true := by decide

theorem test_adc_m :
    row 0x0100#16 [0x8E#8]
      { State.reset with a := 0x00#8, h := 0x20#8, l := 0x00#8, flags := ⟨false, false, false, false, true⟩, mem := storeBytes [] 0x2000 [0xFF#8] }
      (fun s => { s with flags := ⟨true, false, true, true, true⟩, pc := 0x0101#16 }) = true := by decide

theorem test_sub_a :
    row 0x0100#16 [0x97#8] { State.reset with a := 0x3E#8 }
      (fun s => { s with a := 0x00#8, flags := ⟨true, false, true, true, false⟩, pc := 0x0101#16 }) = true := by decide

theorem test_sub_b :
    row 0x0100#16 [0x90#8] { State.reset with a := 0x05#8, b := 0x06#8 }
      (fun s => { s with a := 0xFF#8, flags := ⟨false, true, true, false, true⟩, pc := 0x0101#16 }) = true := by decide

theorem test_sub_c :
    row 0x0100#16 [0x91#8] { State.reset with a := 0x10#8, c := 0x01#8 }
      (fun s => { s with a := 0x0F#8, flags := ⟨false, false, true, false, false⟩, pc := 0x0101#16 })
      = true := by decide

theorem test_sub_m :
    row 0x0100#16 [0x96#8]
      { State.reset with a := 0x80#8, h := 0x20#8, l := 0x00#8, mem := storeBytes [] 0x2000 [0x01#8] }
      (fun s => { s with a := 0x7F#8, pc := 0x0101#16 }) = true := by decide

theorem test_sbb_l :
    row 0x0100#16 [0x9D#8] { State.reset with a := 0x04#8, l := 0x02#8, flags := ⟨false, false, false, false, true⟩ }
      (fun s => { s with a := 0x01#8, flags := ⟨false, false, false, true, false⟩, pc := 0x0101#16 })
      = true := by decide

theorem test_sbb_a :
    (row 0x0100#16 [0x9F#8] { State.reset with a := 0x55#8, flags := ⟨false, false, false, false, true⟩ }
       (fun s => { s with a := 0xFF#8, flags := ⟨false, true, true, false, true⟩, pc := 0x0101#16 }) &&
     row 0x0100#16 [0x9F#8] { State.reset with a := 0x55#8 }
       (fun s => { s with a := 0x00#8, flags := ⟨true, false, true, true, false⟩, pc := 0x0101#16 }))
      = true := by decide

theorem test_sbb_b :
    row 0x0100#16 [0x98#8] { State.reset with a := 0x00#8, b := 0xFF#8, flags := ⟨false, false, false, false, true⟩ }
      (fun s => { s with flags := ⟨true, false, true, false, true⟩, pc := 0x0101#16 }) = true := by decide

theorem test_sbb_m :
    row 0x0100#16 [0x9E#8]
      { State.reset with a := 0x10#8, h := 0x20#8, l := 0x00#8, flags := ⟨false, false, false, false, true⟩, mem := storeBytes [] 0x2000 [0x0F#8] }
      (fun s => { s with a := 0x00#8, flags := ⟨true, false, true, false, false⟩, pc := 0x0101#16 }) = true := by decide

theorem test_dad_b :
    row 0x0100#16 [0x09#8] { State.reset with b := 0x33#8, c := 0x9F#8, h := 0xA1#8, l := 0x7B#8 }
      (fun s => { s with h := 0xD5#8, l := 0x1A#8, pc := 0x0101#16 }) = true := by decide

theorem test_dad_sp :
    row 0x0100#16 [0x39#8] { State.reset with h := 0x00#8, l := 0x01#8, sp := 0xFFFF#16 }
      (fun s => { s with l := 0x00#8, flags := ⟨false, false, false, false, true⟩, pc := 0x0101#16 })
      = true := by decide

theorem test_dad_h :
    row 0x0100#16 [0x29#8] { State.reset with h := 0x80#8, l := 0x01#8 }
      (fun s => { s with h := 0x00#8, l := 0x02#8, flags := ⟨false, false, false, false, true⟩, pc := 0x0101#16 })
      = true := by decide

theorem test_dad_d :
    row 0x0100#16 [0x19#8]
      { State.reset with d := 0x00#8, e := 0x00#8, h := 0x12#8, l := 0x34#8, flags := ⟨false, false, false, false, true⟩ }
      (fun s => { s with flags := ⟨false, false, false, false, false⟩, pc := 0x0101#16 }) = true := by decide

theorem test_daa :
    (row 0x0100#16 [0x27#8] { State.reset with a := 0x9B#8 }
       (fun s => { s with a := 0x01#8, flags := ⟨false, false, false, true, true⟩, pc := 0x0101#16 }) &&
     row 0x0100#16 [0x27#8] { State.reset with a := 0x00#8, flags := ⟨false, false, false, false, true⟩ }
       (fun s => { s with a := 0x60#8, flags := ⟨false, false, true, false, true⟩, pc := 0x0101#16 }) &&
     row 0x0100#16 [0x27#8] { State.reset with a := 0xFF#8 }
       (fun s => { s with a := 0x65#8, flags := ⟨false, false, true, true, true⟩, pc := 0x0101#16 }) &&
     row 0x0100#16 [0x27#8] { State.reset with a := 0x7D#8 }
       (fun s => { s with a := 0x83#8, flags := ⟨false, true, false, true, false⟩, pc := 0x0101#16 }) &&
     row 0x0100#16 [0x27#8] { State.reset with a := 0x9A#8 }
       (fun s => { s with a := 0x00#8, flags := ⟨true, false, true, true, true⟩, pc := 0x0101#16 }) &&
     row 0x0100#16 [0x27#8] { State.reset with a := 0x15#8, flags := ⟨false, false, false, true, false⟩ }
       (fun s => { s with a := 0x1B#8, flags := ⟨false, false, true, false, false⟩, pc := 0x0101#16 }) &&
     row 0x0100#16 [0x27#8] { State.reset with a := 0x42#8 }
       (fun s => { s with flags := ⟨false, false, true, false, false⟩, pc := 0x0101#16 }) &&
     row 0x0100#16 [0x27#8] { State.reset with a := 0x99#8 }
       (fun s => { s with flags := ⟨false, true, true, false, false⟩, pc := 0x0101#16 })) = true := by decide

/-! ### 95_test_vectors.md part 2: Rotate (46_rotate.md) -/

theorem test_rlc :
    (row 0x0100#16 [0x07#8] { State.reset with a := 0xF2#8 }
       (fun s => { s with a := 0xE5#8, flags := ⟨false, false, false, false, true⟩, pc := 0x0101#16 }) &&
     row 0x0100#16 [0x07#8] { State.reset with a := 0x00#8, flags := ⟨false, false, false, false, true⟩ }
       (fun s => { s with flags := ⟨false, false, false, false, false⟩, pc := 0x0101#16 })) = true := by decide

theorem test_rrc :
    (row 0x0100#16 [0x0F#8] { State.reset with a := 0xF2#8, flags := ⟨false, false, false, false, true⟩ }
       (fun s => { s with a := 0x79#8, flags := ⟨false, false, false, false, false⟩, pc := 0x0101#16 }) &&
     row 0x0100#16 [0x0F#8] { State.reset with a := 0x01#8 }
       (fun s => { s with a := 0x80#8, flags := ⟨false, false, false, false, true⟩, pc := 0x0101#16 }))
      = true := by decide

theorem test_ral :
    (row 0x0100#16 [0x17#8] { State.reset with a := 0xB5#8 }
       (fun s => { s with a := 0x6A#8, flags := ⟨false, false, false, false, true⟩, pc := 0x0101#16 }) &&
     row 0x0100#16 [0x17#8] { State.reset with a := 0x80#8 }
       (fun s => { s with a := 0x00#8, flags := ⟨false, false, false, false, true⟩, pc := 0x0101#16 }))
      = true := by decide

theorem test_rar :
    (row 0x0100#16 [0x1F#8] { State.reset with a := 0x6A#8, flags := ⟨false, false, false, false, true⟩ }
       (fun s => { s with a := 0xB5#8, flags := ⟨false, false, false, false, false⟩, pc := 0x0101#16 }) &&
     row 0x0100#16 [0x1F#8] { State.reset with a := 0x01#8 }
       (fun s => { s with a := 0x00#8, flags := ⟨false, false, false, false, true⟩, pc := 0x0101#16 }))
      = true := by decide

/-! ### 95_test_vectors.md part 2: Complement and carry (47_complement_carry.md) -/

theorem test_cma :
    (row 0x0100#16 [0x2F#8] { State.reset with a := 0x51#8 } (fun s => { s with a := 0xAE#8, pc := 0x0101#16 }) &&
     row 0x0100#16 [0x2F#8] { State.reset with a := 0xFF#8 } (fun s => { s with a := 0x00#8, pc := 0x0101#16 }))
      = true := by decide

theorem test_stc :
    (row 0x0100#16 [0x37#8] State.reset
       (fun s => { s with flags := ⟨false, false, false, false, true⟩, pc := 0x0101#16 }) &&
     row 0x0100#16 [0x37#8] { State.reset with flags := ⟨false, false, false, false, true⟩ }
       (fun s => { s with pc := 0x0101#16 })) = true := by decide

theorem test_cmc :
    (row 0x0100#16 [0x3F#8] { State.reset with flags := ⟨false, false, false, false, true⟩ }
       (fun s => { s with flags := ⟨false, false, false, false, false⟩, pc := 0x0101#16 }) &&
     row 0x0100#16 [0x3F#8] State.reset
       (fun s => { s with flags := ⟨false, false, false, false, true⟩, pc := 0x0101#16 })) = true := by decide

/-! ### 95_test_vectors.md part 2: Control and unimplemented (48_control.md) -/

theorem test_nop :
    (row 0x0100#16 [0x00#8] State.reset (fun s => { s with pc := 0x0101#16 }) &&
     row 0xFFFF#16 [0x00#8] State.reset (fun s => { s with run := .halted (.memoryFault 0x10000) })) = true := by decide

theorem test_hlt :
    (row 0x0100#16 [0x76#8] State.reset (fun s => { s with run := .halted .hlt, pc := 0x0101#16 }) &&
     runAfter (placed 0xFFFF#16 [0x76#8] State.reset) == some (.halted .hlt)) = true := by decide

theorem test_jmp :
    (row 0x0100#16 [0xC3#8, 0x00#8, 0x00#8] State.reset
       (fun s => { s with run := .halted (.unimplementedOpcode 0x0100#16 0xC3#8) }) &&
     row 0xFFFF#16 [0xC3#8] State.reset (fun s => { s with run := .halted (.unimplementedOpcode 0xFFFF#16 0xC3#8) }))
      = true := by decide

theorem test_undocumented_nop :
    row 0x0100#16 [0x08#8] State.reset (fun s => { s with run := .halted (.unimplementedOpcode 0x0100#16 0x08#8) })
      = true := by decide

theorem test_ana_b :
    row 0x0100#16 [0xA0#8] { State.reset with a := 0xFF#8, b := 0x0F#8 }
      (fun s => { s with run := .halted (.unimplementedOpcode 0x0100#16 0xA0#8) }) = true := by decide

theorem test_rst_7 :
    row 0x0100#16 [0xFF#8] State.reset (fun s => { s with run := .halted (.unimplementedOpcode 0x0100#16 0xFF#8) })
      = true := by decide

/-! ### 95_test_vectors.md part 2: SUB_AC_RULE = borrow (40_flag_policy.md rules R124, R125; only AC differs from the default) -/

theorem test_sub_a_borrow :
    row 0x0100#16 [0x97#8] { borrowReset with a := 0x3E#8 }
      (fun s => { s with a := 0x00#8, flags := ⟨true, false, true, false, false⟩, pc := 0x0101#16 }) = true := by decide

theorem test_sub_b_borrow :
    row 0x0100#16 [0x90#8] { borrowReset with a := 0x05#8, b := 0x06#8 }
      (fun s => { s with a := 0xFF#8, flags := ⟨false, true, true, true, true⟩, pc := 0x0101#16 }) = true := by decide

theorem test_sub_c_borrow :
    row 0x0100#16 [0x91#8] { borrowReset with a := 0x10#8, c := 0x01#8 }
      (fun s => { s with a := 0x0F#8, flags := ⟨false, false, true, true, false⟩, pc := 0x0101#16 }) = true := by decide

theorem test_sbb_l_borrow :
    row 0x0100#16 [0x9D#8] { borrowReset with a := 0x04#8, l := 0x02#8, flags := ⟨false, false, false, false, true⟩ }
      (fun s => { s with a := 0x01#8, flags := ⟨false, false, false, false, false⟩, pc := 0x0101#16 })
      = true := by decide

theorem test_dcr_c_borrow :
    (row 0x0100#16 [0x0D#8] { borrowReset with c := 0x00#8 }
       (fun s => { s with c := 0xFF#8, flags := ⟨false, true, true, true, false⟩, pc := 0x0101#16 }) &&
     row 0x0100#16 [0x0D#8] { borrowReset with c := 0x10#8 }
       (fun s => { s with c := 0x0F#8, flags := ⟨false, false, true, true, false⟩, pc := 0x0101#16 }))
      = true := by decide

theorem test_dcr_e_borrow :
    row 0x0100#16 [0x1D#8] { borrowReset with e := 0x01#8 }
      (fun s => { s with e := 0x00#8, flags := ⟨true, false, true, false, false⟩, pc := 0x0101#16 }) = true := by decide

/-! ### 95_test_vectors.md part 2: load -/

theorem test_load_ok :
    load .ffff [0x11#8, 0x11#8] 0x0100#16 State.reset =
      .loaded { State.reset with mem := [(0x0100, 0x11#8), (0x0101, 0x11#8)], pc := 0x0100#16 } := by decide

theorem test_load_ending_at_fffe :
    load .ffff [0x11#8, 0x11#8, 0x11#8] 0xFFFC#16 State.reset =
      .loaded { State.reset with
        mem := [(0xFFFC, 0x11#8), (0xFFFD, 0x11#8), (0xFFFE, 0x11#8)], pc := 0xFFFC#16 } := by decide

theorem test_load_ending_at_ffff :
    load .ffff [0x11#8, 0x11#8, 0x11#8, 0x11#8] 0xFFFC#16 State.reset = .programTooLarge 0xFFFC 4 := by decide

theorem test_load_one_byte_at_ffff_with_the_wider_limit :
    load .addressSpace [0x11#8] 0xFFFF#16 State.reset =
      .loaded { State.reset with mem := [(0xFFFF, 0x11#8)], pc := 0xFFFF#16 } := by decide

theorem test_empty_load_at_ffff :
    load .ffff [] 0xFFFF#16 State.reset = .loaded { State.reset with pc := 0xFFFF#16 } := by decide

theorem test_memory_faults_above_ffff :
    (memRead 0x10000 State.reset = .error (.memoryFault 0x10000)) ∧
      (memWrite 0x10000 0x5A#8 State.reset = .error (.memoryFault 0x10000)) := by decide

/-- Writing zero unlists the cell: equal memories are equal data. -/
theorem test_writing_zero_unlists_the_cell : Memory.set [(0x2000, 0x01#8)] 0x2000 0x00#8 = [] := by decide

/-! ### Witnesses: for each statement with hypotheses, a state and operands that meet them, at the ends of their ranges -/

/-- A state at PC `at_`: H:L is 0x2000, B:C is 0x3000, and every other register is zero. -/
def sample (at_ : Word) : State := { State.reset with h := 0x20#8, b := 0x30#8, pc := at_ }

/-- Whether an instruction answers a next state in which the engine goes on. -/
def completes (i : Instr) (s : State) : Bool :=
  match exec i s with
  | .next t => t.run == s.run
  | .fault _ => false
  | .refused _ => false

/-- Whether the operand fetch of the opcode `op` at PC `at_` meets the hypotheses of `OperandFetchHalts n op`. -/
def operandFetchMet (n : Nat) (op : Byte) (at_ : Word) : Bool :=
  let s := placed at_ [op] State.reset
  s.run == .fetching && (match memRead s.pc.toNat s with | .ok v => v == op | .error _ => false) &&
    decide (0xFFFF < s.pc.toNat + n)

theorem witness_fits :
    Fits 0 (sample 0xFFFE#16) ∧ Fits 1 (sample 0xFFFD#16) ∧ Fits 2 (sample 0xFFFC#16) := by
  unfold Fits
  decide

theorem witness_pc_overflow :
    (sample 0xFFFF#16).pc.toNat + 1 + 0 = 0x10000 ∧ (sample 0xFFFE#16).pc.toNat + 1 + 1 = 0x10000 ∧
      (sample 0xFFFD#16).pc.toNat + 1 + 2 = 0x10000 := by decide

theorem witness_MovRegisterCopiesTheSource :
    Fits 0 (sample 0xFFFE#16) ∧ completes (.movReg .b .c) (sample 0xFFFE#16) = true := by
  unfold Fits
  decide

theorem witness_MovLoadReadsTheCellAtHl :
    Fits 0 (sample 0xFFFE#16) ∧ completes (.movLoad .h) (sample 0xFFFE#16) = true := by
  unfold Fits
  decide

theorem witness_MviLoadsTheImmediate :
    Fits 1 (sample 0xFFFD#16) ∧ completes (.mvi (.reg .a) 0x42#8) (sample 0xFFFD#16) = true ∧
      operandFetchMet 1 0x3E#8 0xFFFF#16 = true := by
  unfold Fits
  decide

theorem witness_LxiLoadsThePair :
    Fits 2 (sample 0xFFFC#16) ∧ completes (.lxi .sp 0xFFFE#16) (sample 0xFFFC#16) = true ∧
      operandFetchMet 2 0x31#8 0xFFFF#16 = true ∧ operandFetchMet 2 0x31#8 0xFFFE#16 = true := by
  unfold Fits
  decide

theorem witness_StaxStoresTheAccumulator :
    Fits 0 (sample 0xFFFE#16) ∧ completes (.stax .bc) (sample 0xFFFE#16) = true := by
  unfold Fits
  decide

theorem witness_LdaxLoadsTheAccumulator :
    Fits 0 (sample 0xFFFE#16) ∧ completes (.ldax .de) (sample 0xFFFE#16) = true := by
  unfold Fits
  decide

theorem witness_LdaLoadsTheAccumulator :
    Fits 2 (sample 0xFFFC#16) ∧ completes (.lda 0xFFFF#16) (sample 0xFFFC#16) = true ∧
      operandFetchMet 2 0x3A#8 0xFFFF#16 = true ∧ operandFetchMet 2 0x3A#8 0xFFFE#16 = true := by
  unfold Fits
  decide

theorem witness_InrIncrementsTheRegister :
    Fits 0 (sample 0xFFFE#16) ∧ completes (.inr (.reg .b)) (sample 0xFFFE#16) = true := by
  unfold Fits
  decide

theorem witness_InrMemoryIncrementsTheCell :
    Fits 0 (sample 0xFFFE#16) ∧ completes (.inr .m) (sample 0xFFFE#16) = true := by
  unfold Fits
  decide

theorem witness_DcrDecrementsTheRegister :
    Fits 0 (sample 0xFFFE#16) ∧ completes (.dcr (.reg .c)) (sample 0xFFFE#16) = true := by
  unfold Fits
  decide

theorem witness_DcrMemoryDecrementsTheCell :
    Fits 0 (sample 0xFFFE#16) ∧ completes (.dcr .m) (sample 0xFFFE#16) = true := by
  unfold Fits
  decide

theorem witness_InxIncrementsThePair :
    Fits 0 (sample 0xFFFE#16) ∧ completes (.inx .sp) (sample 0xFFFE#16) = true := by
  unfold Fits
  decide

theorem witness_DcxDecrementsThePair :
    Fits 0 (sample 0xFFFE#16) ∧ completes (.dcx .hl) (sample 0xFFFE#16) = true := by
  unfold Fits
  decide

theorem witness_AddAddsToTheAccumulator :
    Fits 0 (sample 0xFFFE#16) ∧ completes (.add .m) (sample 0xFFFE#16) = true := by
  unfold Fits
  decide

theorem witness_AdcAddsWithCarry :
    Fits 0 (sample 0xFFFE#16) ∧ completes (.adc (.reg .a)) (sample 0xFFFE#16) = true := by
  unfold Fits
  decide

theorem witness_SubSubtractsFromTheAccumulator :
    Fits 0 (sample 0xFFFE#16) ∧ completes (.sub (.reg .b)) (sample 0xFFFE#16) = true := by
  unfold Fits
  decide

theorem witness_SbbSubtractsWithBorrow :
    Fits 0 (sample 0xFFFE#16) ∧ completes (.sbb .m) (sample 0xFFFE#16) = true := by
  unfold Fits
  decide

theorem witness_DadAddsThePairToHl :
    Fits 0 (sample 0xFFFE#16) ∧ completes (.dad .sp) (sample 0xFFFE#16) = true := by
  unfold Fits
  decide

theorem witness_DaaAdjustsTheAccumulator :
    Fits 0 (sample 0xFFFE#16) ∧ completes .daa (sample 0xFFFE#16) = true := by
  unfold Fits
  decide

theorem witness_CmaComplementsTheAccumulator :
    Fits 0 (sample 0xFFFE#16) ∧ completes .cma (sample 0xFFFE#16) = true := by
  unfold Fits
  decide

theorem witness_CircularRotatesMoveEveryBit :
    Fits 0 (sample 0xFFFE#16) ∧ completes .rlc (sample 0xFFFE#16) = true ∧
      completes .rrc (sample 0xFFFE#16) = true := by
  unfold Fits
  decide

theorem witness_CarryRotatesMoveEveryBit :
    Fits 0 (sample 0xFFFE#16) ∧ completes .ral (sample 0xFFFE#16) = true ∧
      completes .rar (sample 0xFFFE#16) = true := by
  unfold Fits
  decide

theorem witness_CarryInstructionsWriteOnlyCarry :
    Fits 0 (sample 0xFFFE#16) ∧ completes .stc (sample 0xFFFE#16) = true ∧
      completes .cmc (sample 0xFFFE#16) = true := by
  unfold Fits
  decide

theorem witness_NopOnlyAdvancesPc :
    Fits 0 (sample 0xFFFE#16) ∧ completes .nop (sample 0xFFFE#16) = true ∧
      memRead 0xFFFF (State.create Config.zeroInit .borrow) = .ok 0x00#8 := by
  unfold Fits
  decide

theorem witness_MovStoreWritesTheCellAtHl :
    Fits 0 (sample 0x1FFF#16) ∧ completes (.movStore .h) (sample 0x1FFF#16) = true ∧
      hlAddr (sample 0x1FFF#16) = (sample 0x1FFF#16).pc.toNat + 1 := by
  unfold Fits
  decide

theorem witness_MviMemoryStoresTheImmediate :
    Fits 1 (sample 0x1FFE#16) ∧ completes (.mvi .m 0x76#8) (sample 0x1FFE#16) = true ∧
      hlAddr (sample 0x1FFE#16) = (sample 0x1FFE#16).pc.toNat + 2 ∧ operandFetchMet 1 0x36#8 0xFFFF#16 = true := by
  unfold Fits
  decide

theorem witness_StaStoresTheAccumulator :
    Fits 2 (sample 0xFFFC#16) ∧ completes (.sta 0xFFFF#16) (sample 0xFFFC#16) = true ∧
      (0xFFFF#16).toNat = (sample 0xFFFC#16).pc.toNat + 3 ∧
      operandFetchMet 2 0x32#8 0xFFFE#16 = true ∧ operandFetchMet 2 0x32#8 0xFFFF#16 = true := by
  unfold Fits
  decide

theorem witness_ShldStoresHlLowByteFirst :
    Fits 2 (sample 0xFFFC#16) ∧ (0xFFFE#16).toNat < 0xFFFF ∧ completes (.shld 0xFFFE#16) (sample 0xFFFC#16) = true ∧
      (0xFFFF#16).toNat = 0xFFFF ∧ completes (.shld 0xFFFF#16) (sample 0xFFFC#16) = false ∧
      operandFetchMet 2 0x22#8 0xFFFE#16 = true ∧ operandFetchMet 2 0x22#8 0xFFFF#16 = true := by
  unfold Fits
  decide

theorem witness_LhldLoadsHlLowByteFirst :
    Fits 2 (sample 0xFFFC#16) ∧ (0xFFFE#16).toNat < 0xFFFF ∧ completes (.lhld 0xFFFE#16) (sample 0xFFFC#16) = true ∧
      (0xFFFF#16).toNat = 0xFFFF ∧ completes (.lhld 0xFFFF#16) (sample 0xFFFC#16) = false ∧
      operandFetchMet 2 0x2A#8 0xFFFE#16 = true ∧ operandFetchMet 2 0x2A#8 0xFFFF#16 = true := by
  unfold Fits
  decide

theorem witness_DecodeOfEncodeIsTheInstruction :
    Instr.wf (.unimplemented 0xFF#8) = true ∧ Instr.wf (.lda 0xFFFF#16) = true := by decide

theorem witness_EncodeOfDecodeIsTheBytes :
    decode [0x22#8, 0x00#8, 0x20#8, 0x76#8] = .ok (.shld 0x2000#16, [0x76#8]) := by rfl

theorem witness_LengthIsFixedByTheOpcode :
    decode (0x3E#8 :: [0x42#8, 0x76#8]) = .ok (.mviA 0x42#8, [0x76#8]) := by rfl

theorem witness_StepRunsTheDecodedInstruction :
    (placed 0xFFFD#16 [0x11#8, 0x34#8, 0x12#8] State.reset).run = .fetching ∧
      decode (codeBytes (placed 0xFFFD#16 [0x11#8, 0x34#8, 0x12#8] State.reset)) = .ok (.lxiD 0x1234#16, []) := ⟨rfl, rfl⟩

theorem witness_StepRunsTheDecodedInstruction_at_ffff :
    (placed 0xFFFF#16 [0x76#8] State.reset).run = .fetching ∧
      decode (codeBytes (placed 0xFFFF#16 [0x76#8] State.reset)) = .ok (.hlt, []) := ⟨rfl, rfl⟩

theorem witness_OperandFetchPastTopHalts :
    operandFetchMet (decodeOpcode 0x06#8).operandLength 0x06#8 0xFFFF#16 = true ∧
      operandFetchMet (decodeOpcode 0x01#8).operandLength 0x01#8 0xFFFE#16 = true := by decide

theorem witness_HaltedEngineHasNoStep :
    runAfter (placed 0x0100#16 [0x76#8] State.reset) = some (.halted .hlt) ∧
      runAfter (placed 0xFFFF#16 [0x00#8] State.reset) = some (.halted (.memoryFault 0x10000)) ∧
      runAfter (placed 0x0100#16 [0xC3#8] State.reset) = some (.halted (.unimplementedOpcode 0x0100#16 0xC3#8)) ∧
      runAfter (setRun (.halted .hlt) State.reset) = none := by decide

theorem witness_FetchingEngineAlwaysSteps :
    State.reset.run = .fetching ∧ runAfter State.reset = some .fetching ∧
      runAfter (sample 0xFFFF#16) = some (.halted (.memoryFault 0x10000)) := by decide

theorem witness_PcAdvancesByInstructionLength :
    (.shld 0xFFFE#16 : Instr) ≠ .hlt ∧ (∀ op, (.shld 0xFFFE#16 : Instr) ≠ .unimplemented op) ∧
      (.shld 0xFFFE#16 : Instr) ≠ .shld 0xFFFF#16 ∧ (.shld 0xFFFE#16 : Instr) ≠ .lhld 0xFFFF#16 ∧
      (sample 0xFFFC#16).pc.toNat + 1 + operandLength (.shld 0xFFFE#16) ≤ 0xFFFF := by decide

theorem witness_PcOverflowKeepsTheEffects :
    (.mviB 0x07#8 : Instr) ≠ .hlt ∧ (∀ op, (.mviB 0x07#8 : Instr) ≠ .unimplemented op) ∧
      (.mviB 0x07#8 : Instr) ≠ .shld 0xFFFF#16 ∧ (.mviB 0x07#8 : Instr) ≠ .lhld 0xFFFF#16 ∧
      0xFFFF < (sample 0xFFFE#16).pc.toNat + 1 + operandLength (.mviB 0x07#8) := by decide

theorem witness_UnimplementedOpcodeHalts :
    (placed 0xFFFF#16 [0xC3#8] State.reset).run = .fetching ∧
      memRead 0xFFFF (placed 0xFFFF#16 [0xC3#8] State.reset) = .ok 0xC3#8 ∧ unimplementedOpcode 0xC3#8
      = true := by decide

theorem witness_HltHaltsTheEngine :
    (sample 0xFFFE#16).pc.toNat + 1 ≤ 0xFFFF ∧ (sample 0xFFFF#16).pc = 0xFFFF#16 ∧
      runAfter (placed 0xFFFE#16 [0x76#8] State.reset) = some (.halted .hlt) := by decide

theorem witness_EveryRunReachesHalted :
    State.reset.run = .fetching ∧ (runFor 3 (placed 0x0000#16 [0x3C#8, 0x3C#8, 0x76#8] State.reset)).run = .halted .hlt := by decide

/-- The invariant holds before and after a step that halts on an unimplemented opcode. -/
theorem witness_EveryStepKeepsTheInvariant :
    Inv (placed 0x0100#16 [0xC3#8] State.reset) ∧
      runAfter (placed 0x0100#16 [0xC3#8] State.reset) = some (.halted (.unimplementedOpcode 0x0100#16 0xC3#8)) := by
  refine ⟨⟨by decide, fun _ h => ?_, fun _ _ h => ?_⟩, by decide⟩ <;> exact absurd h (by simp [placed, State.reset, State.create])

theorem witness_EveryInstructionKeepsItsFootprint :
    stepsTo (placed 0x0100#16 [0x77#8] (sample 0x0100#16))
      (setPc 0x0101#16 (placed 0x0100#16 [0x77#8] (sample 0x0100#16))) = true ∧
      exec .movMA (sample 0x0100#16) = .next (setPc 0x0101#16 (sample 0x0100#16)) := ⟨by decide, rfl⟩

theorem witness_ZeroSignParityAreReadByNoInstruction :
    eraseZsp State.reset = eraseZsp { State.reset with flags := ⟨true, true, true, false, false⟩ } ∧
      State.reset ≠ { State.reset with flags := ⟨true, true, true, false, false⟩ } := by decide

theorem witness_StackPointerIsReadOnlyByItsOwnForms :
    readsSp (.lxiSP 0x1234#16) = false ∧ writesSp (.lxiSP 0x1234#16) = true ∧ readsSp .inxB = false ∧ writesSp .inxB = false := by decide

theorem witness_LoadCopiesTheProgramAndSetsPc :
    State.reset = State.create Config.zeroInit .complementAdd ∧
      Config.loadBound .ffff < (0xFFFE#16).toNat + [0x76#8, 0x76#8].length ∧
      (0xFFFD#16).toNat + [0x76#8, 0x76#8].length ≤ Config.loadBound .ffff ∧
      Config.loadBound .addressSpace < (0xFFFF#16).toNat + [0x76#8, 0x76#8].length ∧
      (0xFFFE#16).toNat + [0x76#8, 0x76#8].length ≤ Config.loadBound .addressSpace := by decide

theorem witness_LoadLimitDecidesTheTopByte :
    State.reset = State.create Config.zeroInit .complementAdd := by decide

theorem witness_LoadedSessionStartsAsSpecified :
    load .addressSpace [0x76#8] 0xFFFF#16 (State.create Config.zeroInit .borrow) =
      .loaded { State.create Config.zeroInit .borrow with mem := [(0xFFFF, 0x76#8)], pc := 0xFFFF#16 } := by decide

theorem witness_MemoryPortRoundTrips :
    memRead 0xFFFF State.reset = .ok 0x00#8 ∧ memRead 0x10000 State.reset = .error (.memoryFault 0x10000) := by decide

theorem witness_CanonicalMemoryIsDeterminedByItsReads :
    Memory.wf [(0x0000, 0x01#8), (0xFFFF, 0x02#8)] ∧
      Memory.wf (Memory.set (Memory.set [] 0xFFFF 0x02#8) 0x0000 0x01#8) := by decide

theorem witness_IncrementThenDecrementRestores :
    (sample 0xFFFD#16).pc.toNat + 2 ≤ 0xFFFF ∧ completes (.inr (.reg .b)) (sample 0xFFFD#16) = true ∧
      completes (.dcr (.reg .b)) (sample 0xFFFE#16) = true := by decide

end Sys2Proof.Machine
end

section
/-! PROOFS. Register pairs are views over their two registers (10_state.md section 2), and the pair arithmetic of INX, DCX
and DAD wraps. -/

namespace Sys2Proof.Machine

/-! ### The halves of a pair -/

theorem getPair_bc_toNat (s : State) : (getPair .bc s).toNat = s.b.toNat * 256 + s.c.toNat := joinBytes_toNat _ _

theorem getPair_de_toNat (s : State) : (getPair .de s).toNat = s.d.toNat * 256 + s.e.toNat := joinBytes_toNat _ _

theorem getPair_hl_toNat (s : State) : (getPair .hl s).toNat = s.h.toNat * 256 + s.l.toNat := joinBytes_toNat _ _

/-- `set_pair(v)` writes `v >> 8` and `v & 0xFF` (10_state.md R33). -/
theorem setPair_halves_toNat (v : Word) (s : State) :
    ((setPair .bc v s).b.toNat = v.toNat / 256 ∧ (setPair .bc v s).c.toNat = v.toNat % 256) ∧
    ((setPair .de v s).d.toNat = v.toNat / 256 ∧ (setPair .de v s).e.toNat = v.toNat % 256) ∧
    ((setPair .hl v s).h.toNat = v.toNat / 256 ∧ (setPair .hl v s).l.toNat = v.toNat % 256) :=
  ⟨⟨hiByte_toNat v, loByte_toNat v⟩, ⟨hiByte_toNat v, loByte_toNat v⟩, hiByte_toNat v, loByte_toNat v⟩

/-- `set_pair` writes the registers of its pair, SP for code 3, and nothing else. -/
theorem setPair_frame (p : Pair) (v : Word) (s : State) :
    UnchangedExcept (pairHalves p) (p == .sp) [] [] s (setPair p v s) :=
  UnchangedExcept.setPair (fun _ h => h) (fun h => by simp [h]) v

/-! ### The pair arithmetic -/

/-- The PC advance changes no pair, whether or not it overflows. -/
@[simp] theorem getPair_advance (p : Pair) (n : Nat) (s : State) : getPair p (advance n s) = getPair p s := by
  rcases advance_cases n s with ⟨-, h⟩ | ⟨-, h⟩
  · rw [h, getPair_setPc]
  · rw [h, getPair_setRun]

theorem exec_inx_getPair (p : Pair) (s : State) :
    ∃ t, exec (.inx p) s = .next t ∧ (getPair p t).toNat = ((getPair p s).toNat + 1) % 65536 :=
  ⟨advance 0 (setPair p (getPair p s + 1#16) s), exec_inx p s, by simp⟩

theorem exec_dcx_getPair (p : Pair) (s : State) :
    ∃ t, exec (.dcx p) s = .next t ∧ (getPair p t).toNat = ((getPair p s).toNat + 65535) % 65536 :=
  ⟨advance 0 (setPair p (getPair p s - 1#16) s), exec_dcx p s, by simp [BitVec.toNat_sub, Nat.add_comm]⟩

theorem exec_dad_getPair (p : Pair) (s : State) :
    ∃ t, exec (.dad p) s = .next t ∧
      (getPair .hl t).toNat = ((getPair .hl s).toNat + (getPair p s).toNat) % 65536 := by
  refine ⟨advance 0 _, exec_dad p s, ?_⟩
  rw [getPair_advance, getPair_setCarry, getPair_setPair_self, add16_r]

/-- Settles O26, from the values of the two halves, the frame of `setPair`, and the PC advance leaving every pair alone. -/
theorem registerPairsAreViews : Obligations.RegisterPairsAreViews := by
  intro s v x
  obtain ⟨⟨hb, hc⟩, ⟨hd, he⟩, hh, hl⟩ := setPair_halves_toNat v s
  exact ⟨⟨getPair_bc_toNat s, getPair_de_toNat s, getPair_hl_toNat s⟩,
    fun p => ⟨getPair_setPair_self p v s, setPair_frame p v s⟩, ⟨hb, hc, hd, he, hh, hl⟩,
    ⟨getPair_hl_toNat (setReg .h x s), getPair_hl_toNat (setReg .l x s)⟩,
    fun p => ⟨exec_inx_getPair p s, exec_dcx_getPair p s, exec_dad_getPair p s⟩⟩

end Sys2Proof.Machine
end

section
/-! PROOFS. The memory port round trips inside the address space and faults above it (20_memory.md section 1). -/

namespace Sys2Proof.Machine

/-- A write in range succeeds; its byte is read back, every other address reads as before, and only memory is replaced
(20_memory.md R62, R63). -/
theorem memWrite_roundTrip {addr : Nat} (h : addr ≤ Config.maxAddress) (v : Byte) (s : State) :
    ∃ t, memWrite addr v s = .ok t ∧ memRead addr t = .ok v ∧
      (∀ a, a ≠ addr → memRead a t = memRead a s) ∧ { t with mem := s.mem } = s :=
  ⟨setMem (Memory.set s.mem addr v) s, memWrite_of_le h v s, memRead_set_self h s.mem v s,
    fun _ ha => memRead_set_of_ne ha s.mem v s, rfl⟩

/-- Settles O24, from the read-after-write laws in range and the port's fault above it. -/
theorem memoryPortRoundTrips : Obligations.MemoryPortRoundTrips := by
  intro s addr v
  constructor
  case left =>
    intro h
    exact ⟨⟨_, memRead_of_le h s⟩, memWrite_roundTrip h v s⟩
  case right =>
    intro h
    exact ⟨memRead_of_gt h s, memWrite_of_gt h v s⟩

end Sys2Proof.Machine
end

section
/-! PROOFS. Whatever decodes is well formed and encodes back to the bytes it was read from (30_encoding.md sections 1 to 4);
so a fetched instruction's bytes stand at PC and end inside the address space (41_engine_loop.md section 2). -/

namespace Sys2Proof

/-! ### The opcode table against the encoder -/

/-- The opcodes of formats F1 and F2: MVI, LXI, SHLD, LHLD, STA and LDA (30_encoding.md R91). -/
def opcodesWithOperand : List Byte :=
  [0x06#8, 0x0E#8, 0x16#8, 0x1E#8, 0x26#8, 0x2E#8, 0x36#8, 0x3E#8, 0x01#8, 0x11#8, 0x21#8, 0x31#8,
    0x22#8, 0x2A#8, 0x32#8, 0x3A#8]

/-- Whatever its operand, the entry gives a well-formed instruction that the encoder writes with the opcode `op`. -/
def OpcodeEntry.EncodesAs (op : Byte) (t : OpcodeEntry) : Prop :=
  match t with
  | .f0 i => i.wf = true ∧ encode i = [op]
  | .f1 k => ∀ d8, (k d8).wf = true ∧ encode (k d8) = [op, d8]
  | .f2 k => ∀ d16, (k d16).wf = true ∧ encode (k d16) = [op, loByte d16, hiByte d16]

theorem decodeOpcode_encodesAs_of_operand {op : Byte} (h : op ∈ opcodesWithOperand) :
    (decodeOpcode op).EncodesAs op := by
  fin_cases h <;> exact fun _ => ⟨rfl, rfl⟩

theorem decodeOpcode_encodesAs_of_no_operand {op : Byte} (h : op ∉ opcodesWithOperand) :
    (decodeOpcode op).EncodesAs op := by
  have table : ∀ op : Byte, op ∉ opcodesWithOperand →
      (match decodeOpcode op with | .f0 i => i.wf && decide (encode i = [op]) | _ => false) = true := by decide
  have entry := table op h
  revert entry
  cases decodeOpcode op <;> simp [OpcodeEntry.EncodesAs]

/-- Every entry of the opcode table gives instructions that encode back to its opcode. -/
theorem decodeOpcode_encodesAs (op : Byte) : (decodeOpcode op).EncodesAs op := by
  by_cases h : op ∈ opcodesWithOperand
  · exact decodeOpcode_encodesAs_of_operand h
  · exact decodeOpcode_encodesAs_of_no_operand h

/-! ### Decoding and fetching -/

/-- What decodes is well formed, and encodes to the bytes it was read from. -/
theorem encode_append_of_decode {bytes rest : List Byte} {i : Instr} (h : decode bytes = .ok (i, rest)) :
    i.wf = true ∧ encode i ++ rest = bytes := by
  cases bytes with
  | nil => simp [decode] at h
  | cons op tail =>
    have entry := decodeOpcode_encodesAs op
    cases hd : decodeOpcode op with
    | f0 j =>
      obtain ⟨rfl, rfl⟩ : j = i ∧ tail = rest := by simpa [decode, hd] using h
      obtain ⟨hwf, henc⟩ : j.wf = true ∧ encode j = [op] := by rwa [hd] at entry
      exact ⟨hwf, by rw [henc]; rfl⟩
    | f1 k =>
      rcases tail with _ | ⟨b1, tail⟩
      · simp [decode, hd] at h
      · obtain ⟨rfl, rfl⟩ : k b1 = i ∧ tail = rest := by simpa [decode, hd] using h
        rw [hd] at entry
        obtain ⟨hwf, henc⟩ := entry b1
        exact ⟨hwf, by rw [henc]; rfl⟩
    | f2 k =>
      rcases tail with _ | ⟨b1, _ | ⟨b2, tail⟩⟩
      · simp [decode, hd] at h
      · simp [decode, hd] at h
      · obtain ⟨rfl, rfl⟩ : k (joinBytes b2 b1) = i ∧ tail = rest := by simpa [decode, hd] using h
        rw [hd] at entry
        obtain ⟨hwf, henc⟩ := entry (joinBytes b2 b1)
        exact ⟨hwf, by rw [henc]; simp⟩

namespace Machine

/-- An instruction is one opcode byte and its operand bytes long (30_encoding.md R90). -/
theorem length_encode (i : Instr) : (encode i).length = operandLength i + 1 := by
  cases i <;> rfl

/-- The bytes at PC are those the address space still holds. -/
theorem pc_add_length_codeBytes_le (s : State) : s.pc.toNat + (codeBytes s).length ≤ 0x10000 := by
  rcases codeBytes_cases s with ⟨h, hc⟩ | ⟨h, hc⟩ | ⟨h, hc⟩ <;> simp only [hc, List.length_cons, List.length_nil] <;> omega

/-- The only fault of a fetch is an operand byte past 0xFFFF (41_engine_loop.md R144). -/
theorem fetch_error {s : State} {f : HaltReason} (h : fetch s = .error f) : f = .memoryFault 0x10000 := by
  rw [fetch_eq] at h
  split at h
  · cases h
  · cases h
    rfl

/-- A fetched instruction is well formed and its bytes are the first of those at PC. -/
theorem codeBytes_of_fetch {s : State} {i : Instr} (h : fetch s = .ok i) :
    i.wf = true ∧ ∃ rest, codeBytes s = encode i ++ rest := by
  rw [fetch_eq] at h
  split at h
  · rename_i j rest hd
    cases h
    obtain ⟨hwf, henc⟩ := encode_append_of_decode hd
    exact ⟨hwf, rest, henc.symm⟩
  · cases h

/-- The last byte of a fetched instruction is inside the address space. -/
theorem fetch_fits {s : State} {i : Instr} (h : fetch s = .ok i) : s.pc.toNat + operandLength i ≤ 0xFFFF := by
  obtain ⟨-, rest, hc⟩ := codeBytes_of_fetch h
  have hlen := pc_add_length_codeBytes_le s
  rw [hc, List.length_append, length_encode] at hlen
  omega

/-- The cell at PC holds the opcode of the fetched instruction. -/
theorem memRead_pc_of_fetch {s : State} {i : Instr} {op : Byte} (h : fetch s = .ok i)
    (hop : (encode i).head? = some op) : memRead s.pc.toNat s = .ok op := by
  obtain ⟨-, rest, hc⟩ := codeBytes_of_fetch h
  have head := codeBytes_head s
  rw [hc, List.head?_append, hop, Option.some_or, Option.some_inj] at head
  rw [memRead_word, head]

end Machine

end Sys2Proof
end

section
/-! PROOFS. What executing an instruction can do to PC and the engine state, said once for all 154 constructors
(41_engine_loop.md R145 to R150). -/

namespace Sys2Proof.Machine

/-! ### The operand length by instruction shape (30_encoding.md R91) -/

@[simp] theorem operandLength_movReg (rd rs : Reg) : operandLength (.movReg rd rs) = 0 := by
  cases rd <;> cases rs <;> rfl

@[simp] theorem operandLength_movLoad (rd : Reg) : operandLength (.movLoad rd) = 0 := by cases rd <;> rfl

@[simp] theorem operandLength_movStore (rs : Reg) : operandLength (.movStore rs) = 0 := by cases rs <;> rfl

@[simp] theorem operandLength_mvi (x : Src) (d8 : Byte) : operandLength (.mvi x d8) = 1 := by
  rcases x with r | _
  · cases r <;> rfl
  · rfl

@[simp] theorem operandLength_lxi (p : Pair) (d16 : Word) : operandLength (.lxi p d16) = 2 := by cases p <;> rfl

@[simp] theorem operandLength_stax (p : IndexPair) : operandLength (.stax p) = 0 := by cases p <;> rfl

@[simp] theorem operandLength_ldax (p : IndexPair) : operandLength (.ldax p) = 0 := by cases p <;> rfl

@[simp] theorem operandLength_inr (x : Src) : operandLength (.inr x) = 0 := by
  rcases x with r | _
  · cases r <;> rfl
  · rfl

@[simp] theorem operandLength_dcr (x : Src) : operandLength (.dcr x) = 0 := by
  rcases x with r | _
  · cases r <;> rfl
  · rfl

@[simp] theorem operandLength_inx (p : Pair) : operandLength (.inx p) = 0 := by cases p <;> rfl

@[simp] theorem operandLength_dcx (p : Pair) : operandLength (.dcx p) = 0 := by cases p <;> rfl

@[simp] theorem operandLength_add (x : Src) : operandLength (.add x) = 0 := by
  rcases x with r | _
  · cases r <;> rfl
  · rfl

@[simp] theorem operandLength_adc (x : Src) : operandLength (.adc x) = 0 := by
  rcases x with r | _
  · cases r <;> rfl
  · rfl

@[simp] theorem operandLength_sub (x : Src) : operandLength (.sub x) = 0 := by
  rcases x with r | _
  · cases r <;> rfl
  · rfl

@[simp] theorem operandLength_sbb (x : Src) : operandLength (.sbb x) = 0 := by
  rcases x with r | _
  · cases r <;> rfl
  · rfl

@[simp] theorem operandLength_dad (p : Pair) : operandLength (.dad p) = 0 := by cases p <;> rfl

/-! ### Effects that read an operand or memory, in closed form -/

theorem movLoadEffect_eq (rd : Reg) (s : State) : movLoadEffect rd s = .ok (setReg rd (operand .m s) s) := by
  rw [movLoadEffect, memRead_hlAddr]
  rfl

theorem ldaxEffect_eq (p : Pair) (s : State) :
    ldaxEffect p s = .ok (setReg .a (Memory.get s.mem (getPair p s).toNat) s) := by
  rw [ldaxEffect, memRead_word]
  rfl

theorem ldaEffect_eq (a16 : Word) (s : State) : ldaEffect a16 s = .ok (setReg .a (Memory.get s.mem a16.toNat) s) := by
  rw [ldaEffect, memRead_word]
  rfl

theorem addEffect_eq (x : Src) (s : State) :
    addEffect x s = .ok (setResult (add8 s.a (operand x s) false) s) := by
  rw [addEffect, readSrc_eq]
  rfl

theorem adcEffect_eq (x : Src) (s : State) :
    adcEffect x s = .ok (setResult (add8 s.a (operand x s) s.flags.cy) s) := by
  rw [adcEffect, readSrc_eq]
  rfl

theorem subEffect_eq (x : Src) (s : State) :
    subEffect x s = .ok (setResult (sub8 s.subAcRule s.a (operand x s) false) s) := by
  rw [subEffect, readSrc_eq]
  rfl

theorem sbbEffect_eq (x : Src) (s : State) :
    sbbEffect x s = .ok (setResult (sub8 s.subAcRule s.a (operand x s) s.flags.cy) s) := by
  rw [sbbEffect, readSrc_eq]
  rfl

/-! ### The answer of `exec` -/

/-- From `s` the instruction commits an effect that leaves PC and the engine state alone, then PC advances
(41_engine_loop.md R145 to R148). -/
def AdvancesFrom (s : State) (i : Instr) : Prop :=
  ∃ t, t.pc = s.pc ∧ t.run = s.run ∧ exec i s = .next (advance (operandLength i) t)

theorem AdvancesFrom.of_effect {s t : State} {i : Instr} {n : Nat} {r : Except HaltReason State}
    (hexec : exec i s = finish n s r) (hlen : operandLength i = n) (hr : r = .ok t) (hpc : t.pc = s.pc)
    (hrun : t.run = s.run) : AdvancesFrom s i :=
  ⟨t, hpc, hrun, by rw [hexec, hlen, hr, finish]⟩

/-- The one data access fault: the second cell of SHLD or LHLD lies at 0x10000 (43_load_store.md R193, R194). -/
def FaultsOnDataAccess (s : State) (i : Instr) : Prop :=
  (i = .shld 0xFFFF#16 ∨ i = .lhld 0xFFFF#16) ∧ exec i s = .next (setRun (.halted (.memoryFault 0x10000)) s)

theorem word_lt_ffff_or_eq (w : Word) : w.toNat < 0xFFFF ∨ w = 0xFFFF#16 := by bv_omega

theorem exec_shld_cases (a16 : Word) (s : State) : AdvancesFrom s (.shld a16) ∨ FaultsOnDataAccess s (.shld a16) := by
  rcases word_lt_ffff_or_eq a16 with h | rfl
  · exact .inl (.of_effect (exec_shld a16 s) rfl (shldEffect_of_lt h s) rfl rfl)
  · exact .inr ⟨.inl rfl, by rw [exec_shld, shldEffect_at_top rfl, finish_error]⟩

theorem exec_lhld_cases (a16 : Word) (s : State) : AdvancesFrom s (.lhld a16) ∨ FaultsOnDataAccess s (.lhld a16) := by
  rcases word_lt_ffff_or_eq a16 with h | rfl
  · exact .inl (.of_effect (exec_lhld a16 s) rfl (lhldEffect_of_lt h s) rfl rfl)
  · exact .inr ⟨.inr rfl, by rw [exec_lhld, lhldEffect_at_top rfl, finish_error]⟩

/-- Every instruction but HLT and the unimplemented opcodes advances, or meets the one data access fault. -/
theorem exec_cases (i : Instr) (s : State) :
    AdvancesFrom s i ∨ FaultsOnDataAccess s i ∨ i = .hlt ∨ ∃ op, i = .unimplemented op := by
  induction i using Instr.byShape with
  | movReg rd rs =>
    exact .inl (.of_effect (exec_movReg rd rs s) (operandLength_movReg rd rs) rfl (setReg_pc _ _ _) (setReg_run _ _ _))
  | movLoad rd =>
    exact .inl (.of_effect (exec_movLoad rd s) (operandLength_movLoad rd) (movLoadEffect_eq rd s)
      (setReg_pc _ _ _) (setReg_run _ _ _))
  | movStore rs =>
    exact .inl (.of_effect (exec_movStore rs s) (operandLength_movStore rs) (memWrite_hlAddr _ s) rfl rfl)
  | mviReg rd d8 =>
    exact .inl (.of_effect (exec_mviReg rd d8 s) (operandLength_mvi _ d8) rfl (setReg_pc _ _ _) (setReg_run _ _ _))
  | mviMem d8 => exact .inl (.of_effect (exec_mviMem d8 s) rfl (memWrite_hlAddr d8 s) rfl rfl)
  | lxi p d16 =>
    exact .inl (.of_effect (exec_lxi p d16 s) (operandLength_lxi p d16) rfl (setPair_pc _ _ _) (setPair_run _ _ _))
  | stax p => exact .inl (.of_effect (exec_stax p s) (operandLength_stax p) (memWrite_word _ _ s) rfl rfl)
  | ldax p => exact .inl (.of_effect (exec_ldax p s) (operandLength_ldax p) (ldaxEffect_eq _ s) rfl rfl)
  | shld a16 => exact (exec_shld_cases a16 s).imp_right .inl
  | lhld a16 => exact (exec_lhld_cases a16 s).imp_right .inl
  | sta a16 => exact .inl (.of_effect (exec_sta a16 s) rfl (memWrite_word a16 _ s) rfl rfl)
  | lda a16 => exact .inl (.of_effect (exec_lda a16 s) rfl (ldaEffect_eq a16 s) rfl rfl)
  | inrReg rd =>
    exact .inl (.of_effect (exec_inrReg rd s) (operandLength_inr _) rfl (setReg_pc _ _ _) (setReg_run _ _ _))
  | inrMem => exact .inl (.of_effect (exec_inrMem s) rfl (inrMemEffect_eq s) rfl rfl)
  | dcrReg rd =>
    exact .inl (.of_effect (exec_dcrReg rd s) (operandLength_dcr _) rfl (setReg_pc _ _ _) (setReg_run _ _ _))
  | dcrMem => exact .inl (.of_effect (exec_dcrMem s) rfl (dcrMemEffect_eq s) rfl rfl)
  | inx p => exact .inl (.of_effect (exec_inx p s) (operandLength_inx p) rfl (setPair_pc _ _ _) (setPair_run _ _ _))
  | dcx p => exact .inl (.of_effect (exec_dcx p s) (operandLength_dcx p) rfl (setPair_pc _ _ _) (setPair_run _ _ _))
  | add x => exact .inl (.of_effect (exec_add x s) (operandLength_add x) (addEffect_eq x s) rfl rfl)
  | adc x => exact .inl (.of_effect (exec_adc x s) (operandLength_adc x) (adcEffect_eq x s) rfl rfl)
  | sub x => exact .inl (.of_effect (exec_sub x s) (operandLength_sub x) (subEffect_eq x s) rfl rfl)
  | sbb x => exact .inl (.of_effect (exec_sbb x s) (operandLength_sbb x) (sbbEffect_eq x s) rfl rfl)
  | dad p => exact .inl (.of_effect (exec_dad p s) (operandLength_dad p) rfl rfl rfl)
  | daa => exact .inl (.of_effect (exec_daa s) rfl rfl rfl rfl)
  | rlc => exact .inl (.of_effect (exec_rlc s) rfl rfl rfl rfl)
  | rrc => exact .inl (.of_effect (exec_rrc s) rfl rfl rfl rfl)
  | ral => exact .inl (.of_effect (exec_ral s) rfl rfl rfl rfl)
  | rar => exact .inl (.of_effect (exec_rar s) rfl rfl rfl rfl)
  | cma => exact .inl (.of_effect (exec_cma s) rfl rfl rfl rfl)
  | stc => exact .inl (.of_effect (exec_stc s) rfl rfl rfl rfl)
  | cmc => exact .inl (.of_effect (exec_cmc s) rfl rfl rfl rfl)
  | nop => exact .inl (.of_effect (exec_nop s) rfl rfl rfl rfl)
  | hlt => exact .inr (.inr (.inl rfl))
  | unimplemented op => exact .inr (.inr (.inr ⟨op, rfl⟩))

/-- An advance inside the address space completes the instruction (41_engine_loop.md R147). -/
theorem AdvancesFrom.completes {s : State} {i : Instr} (h : AdvancesFrom s i) (hfits : Fits (operandLength i) s) :
    ∃ t, exec i s = .next t ∧ Completed (operandLength i) s t := by
  obtain ⟨t, hpc, hrun, hexec⟩ := h
  rw [advance_of_fits (by rwa [hpc]), hpc] at hexec
  exact ⟨_, hexec, .of_setPc hfits hrun⟩

/-- An advance past the address space halts the engine at the address of the next fetch (41_engine_loop.md R148). -/
theorem AdvancesFrom.overflows {s : State} {i : Instr} (h : AdvancesFrom s i)
    (hover : 0xFFFF < s.pc.toNat + 1 + operandLength i) :
    ∃ t, exec i s = .next t ∧ t.pc = s.pc ∧ t.run = .halted (.memoryFault (s.pc.toNat + 1 + operandLength i)) := by
  obtain ⟨t, hpc, -, hexec⟩ := h
  rw [advance_of_overflow (by rwa [hpc]), hpc] at hexec
  exact ⟨_, hexec, hpc, rfl⟩

/-- Settles O10: of the four answers of `exec` the hypotheses leave the advance, which stays inside the address space. -/
theorem pcAdvancesByInstructionLength : Obligations.PcAdvancesByInstructionLength := by
  intro i s hhlt hunimpl hshld hlhld hfits
  rcases exec_cases i s with h | ⟨h | h, -⟩ | h | ⟨op, h⟩
  · obtain ⟨t, hexec, hrun, hpc⟩ := h.completes hfits
    exact ⟨t, hexec, hpc, hrun⟩
  · exact absurd h hshld
  · exact absurd h hlhld
  · exact absurd h hhlt
  · exact absurd h (hunimpl op)

end Sys2Proof.Machine
end

section
/-! PROOFS. A Halted engine has no step, and the ways into Halted (41_engine_loop.md R141). -/

namespace Sys2Proof.Machine

theorem halt_run {s t : State} (h : halt s = .next t) : t.run = .halted .hlt := by
  rcases Nat.lt_or_ge 0xFFFF (s.pc.toNat + 1) with htop | hfits
  · rw [halt_at_top htop] at h
    cases h
    rfl
  · rw [halt_of_fits hfits] at h
    cases h
    rfl

/-- A step is taken from Fetching alone: it raises the fault of the fetch, or executes the fetched instruction. -/
theorem step_next_cases {s t : State} (h : step s = .next t) :
    s.run = .fetching ∧ (t = setRun (.halted (.memoryFault 0x10000)) s ∨ ∃ i, fetch s = .ok i ∧ exec i s = .next t) := by
  cases hrun : s.run with
  | halted reason =>
    rw [step_of_halted hrun] at h
    cases h
  | fetching =>
    refine ⟨rfl, ?_⟩
    rw [step_of_fetching hrun] at h
    cases hf : fetch s with
    | error f =>
      rw [hf, fetch_error hf] at h
      cases h
      exact .inl rfl
    | ok i =>
      rw [hf] at h
      exact .inr ⟨i, rfl, h⟩

/-- An advancing instruction that was fetched halts the engine only by the overflow to 0x10000. -/
theorem AdvancesFrom.halted_of_fetch {s t : State} {i : Instr} {reason : HaltReason} (h : AdvancesFrom s i)
    (hfetch : fetch s = .ok i) (hrun : s.run = .fetching) (hexec : exec i s = .next t)
    (hhalted : t.run = .halted reason) : reason = .memoryFault 0x10000 := by
  have hlast := fetch_fits hfetch
  by_cases hfits : s.pc.toNat + 1 + operandLength i ≤ 0xFFFF
  · obtain ⟨t', hexec', hrun', -⟩ := h.completes hfits
    cases hexec.symm.trans hexec'
    cases hhalted.symm.trans (hrun'.trans hrun)
  · obtain ⟨t', hexec', -, hrun'⟩ := h.overflows (by omega)
    cases hexec.symm.trans hexec'
    cases hhalted.symm.trans hrun'
    rw [(by omega : s.pc.toNat + 1 + operandLength i = 0x10000)]

/-- Settles O8: a step that halts met the fault of the fetch, or executed one of the four kinds of `exec_cases`. -/
theorem haltedEngineHasNoStep : Obligations.HaltedEngineHasNoStep := by
  refine ⟨fun _ _ => step_of_halted, fun s t reason hstep hhalted => ?_⟩
  obtain ⟨hrun, rfl | ⟨i, hfetch, hexec⟩⟩ := step_next_cases hstep
  · cases hhalted
    exact .inr (.inl rfl)
  rcases exec_cases i s with h | ⟨-, h⟩ | rfl | ⟨op, rfl⟩
  · exact .inr (.inl (h.halted_of_fetch hfetch hrun hexec hhalted))
  · cases hexec.symm.trans h
    cases hhalted
    exact .inr (.inl rfl)
  · cases hhalted.symm.trans (halt_run hexec)
    exact .inl ⟨memRead_pc_of_fetch hfetch rfl, rfl⟩
  · cases hexec
    cases hhalted
    exact .inr (.inr ⟨op, memRead_pc_of_fetch hfetch rfl, (codeBytes_of_fetch hfetch).1, rfl⟩)

end Sys2Proof.Machine
end

section
/-! PROOFS. What an instruction answers whose effect always commits (41_engine_loop.md R145 to R148): its completion where the
next address is inside the address space, its PC overflow where it is not. -/

namespace Sys2Proof.Machine

/-- A committed effect that leaves PC and the engine state alone completes: only PC is written after it
(41_engine_loop.md R147). -/
theorem completed_of_finish {n : Nat} {i : Instr} {s t : State} (hexec : exec i s = finish n s (.ok t))
    (hpc : t.pc = s.pc) (hrun : t.run = s.run) (hfits : Fits n s) :
    ∃ next, exec i s = .next (setPc next t) ∧ Completed n s (setPc next t) :=
  ⟨_, by rw [hexec, finish_of_fits hfits hpc], .of_setPc hfits hrun⟩

/-- An instruction whose effect always commits and leaves PC alone halts at the PC overflow, PC at its opcode
(41_engine_loop.md R148). -/
theorem PcOverflowHalts.of_finish {n : Nat} {i : Instr} {effect : State → State}
    (hexec : ∀ s, exec i s = finish n s (.ok (effect s))) (hpc : ∀ s, (effect s).pc = s.pc) : PcOverflowHalts n i := by
  intro s htop
  refine ⟨setRun (.halted (.memoryFault 0x10000)) (effect s), ?_, rfl, hpc s⟩
  rw [hexec, finish, advance_of_overflow (by rw [hpc]; omega), hpc, htop]

/-- The next fetch reads the byte that a store left at PC. -/
theorem codeBytes_head_of_memRead {addr : Nat} {t : State} {v : Byte} (hread : memRead addr t = .ok v)
    (hpc : addr = t.pc.toNat) : (codeBytes t).head? = some v := by
  rw [hpc, memRead_word, Except.ok.injEq] at hread
  rw [codeBytes_head, hread]

end Sys2Proof.Machine
end

section
/-! PROOFS. MOV between registers, from memory and to memory (42_data_move.md R170 to R172). -/

namespace Sys2Proof.Machine

/-! ### The encodings -/

theorem encode_movReg (rd rs : Reg) : encode (.movReg rd rs) = [0b01000000#8 ||| rd.code <<< 3 ||| rs.code] := by
  cases rd <;> cases rs <;> rfl

theorem encode_movLoad (rd : Reg) : encode (.movLoad rd) = [0b01000110#8 ||| rd.code <<< 3] := by cases rd <;> rfl

theorem encode_movStore (rs : Reg) : encode (.movStore rs) = [0b01110000#8 ||| rs.code] := by cases rs <;> rfl

/-! ### The committed effects -/

theorem exec_movReg_commits (rd rs : Reg) (s : State) :
    exec (.movReg rd rs) s = finish 0 s (.ok (setReg rd (getReg rs s) s)) := exec_movReg rd rs s

theorem exec_movLoad_commits (rd : Reg) (s : State) :
    exec (.movLoad rd) s = finish 0 s (.ok (setReg rd (operand .m s) s)) := by
  rw [exec_movLoad, movLoadEffect_eq]

theorem exec_movStore_commits (rs : Reg) (s : State) :
    exec (.movStore rs) s = finish 0 s (.ok (setMem (Memory.set s.mem (hlAddr s) (getReg rs s)) s)) := by
  rw [exec_movStore, movStoreEffect, memWrite_hlAddr]

/-- Settles O29: the effect writes the destination alone, with the source's value in the starting state. -/
theorem movRegisterCopiesTheSource : Obligations.MovRegisterCopiesTheSource := by
  intro rd rs
  refine ⟨encode_movReg rd rs, .of_finish (exec_movReg_commits rd rs) (fun _ => setReg_pc _ _ _), fun s hfits => ?_⟩
  obtain ⟨next, hexec, hcompleted⟩ :=
    completed_of_finish (exec_movReg_commits rd rs s) (setReg_pc _ _ _) (setReg_run _ _ _) hfits
  exact ⟨_, hexec, hcompleted, by simp, (UnchangedExcept.setReg (List.mem_singleton_self rd) _).setPc next⟩

/-- Settles O30: the effect writes the destination alone, with the byte the port reads at HL in the starting state. -/
theorem movLoadReadsTheCellAtHl : Obligations.MovLoadReadsTheCellAtHl := by
  intro rd
  refine ⟨encode_movLoad rd, .of_finish (exec_movLoad_commits rd) (fun _ => setReg_pc _ _ _), fun s hfits => ?_⟩
  obtain ⟨next, hexec, hcompleted⟩ :=
    completed_of_finish (exec_movLoad_commits rd s) (setReg_pc _ _ _) (setReg_run _ _ _) hfits
  exact ⟨_, hexec, hcompleted, by simp, (UnchangedExcept.setReg (List.mem_singleton_self rd) _).setPc next⟩

/-- Settles O31: the effect writes the cell at HL alone, so a fetch from that cell reads the stored byte. -/
theorem movStoreWritesTheCellAtHl : Obligations.MovStoreWritesTheCellAtHl := by
  intro rs
  refine ⟨encode_movStore rs, .of_finish (exec_movStore_commits rs) (fun _ => rfl), fun s hfits => ?_⟩
  obtain ⟨next, hexec, hcompleted⟩ := completed_of_finish (exec_movStore_commits rs s) rfl rfl hfits
  have hstored : memRead (hlAddr s) (setPc next (setMem (Memory.set s.mem (hlAddr s) (getReg rs s)) s)) =
      .ok (getReg rs s) := memRead_set_self (word_le_maxAddress _) s.mem (getReg rs s) s
  exact ⟨_, hexec, hcompleted, hstored, (UnchangedExcept.store (List.mem_singleton_self _) _).setPc next,
    codeBytes_head_of_memRead hstored⟩

end Sys2Proof.Machine
end

section
/-! PROOFS. STAX and LDAX, whose address is the value of BC or DE (43_load_store.md R191, R192). -/

namespace Sys2Proof.Machine

/-! ### The encodings -/

theorem encode_stax (p : IndexPair) : encode (.stax p) = [0b00000010#8 ||| p.pair.code <<< 4] := by cases p <;> rfl

theorem encode_ldax (p : IndexPair) : encode (.ldax p) = [0b00001010#8 ||| p.pair.code <<< 4] := by cases p <;> rfl

/-! ### The committed effects -/

/-- The port takes every address of a pair, so the store commits. -/
theorem exec_stax_commits (p : IndexPair) (s : State) :
    exec (.stax p) s = finish 0 s (.ok (setMem (Memory.set s.mem (getPair p.pair s).toNat s.a) s)) := by
  rw [exec_stax, staxEffect, memWrite_word]

theorem exec_ldax_commits (p : IndexPair) (s : State) :
    exec (.ldax p) s = finish 0 s (.ok (setReg .a (Memory.get s.mem (getPair p.pair s).toNat) s)) := by
  rw [exec_ldax, ldaxEffect_eq]

/-- Settles O35: the effect writes the cell at the pair alone, with A of the starting state. -/
theorem staxStoresTheAccumulator : Obligations.StaxStoresTheAccumulator := by
  intro p
  refine ⟨encode_stax p, .of_finish (exec_stax_commits p) (fun _ => rfl), fun s hfits => ?_⟩
  obtain ⟨next, hexec, hcompleted⟩ := completed_of_finish (exec_stax_commits p s) rfl rfl hfits
  exact ⟨_, hexec, hcompleted, memRead_set_self (word_le_maxAddress _) s.mem s.a s,
    (UnchangedExcept.store (List.mem_singleton_self _) _).setPc next⟩

/-- Settles O36: the effect writes A alone, with the byte the port reads at the pair in the starting state. -/
theorem ldaxLoadsTheAccumulator : Obligations.LdaxLoadsTheAccumulator := by
  intro p
  refine ⟨encode_ldax p, .of_finish (exec_ldax_commits p) (fun _ => setReg_pc _ _ _), fun s hfits => ?_⟩
  obtain ⟨next, hexec, hcompleted⟩ :=
    completed_of_finish (exec_ldax_commits p s) (setReg_pc _ _ _) (setReg_run _ _ _) hfits
  exact ⟨_, hexec, hcompleted, memRead_word (getPair p.pair s) s,
    (UnchangedExcept.setReg (List.mem_singleton_self Reg.a) _).setPc next⟩

end Sys2Proof.Machine
end

section
/-! PROOFS. The two ends of INR and DCR (44_inc_dec.md R210 to R213): a byte written to a register or to the cell at HL, with
Z, S and P from that byte and AC beside them; CY stays. -/

namespace Sys2Proof.Machine

theorem ZspOf.setZspAc (v : Byte) (ac : Bool) (s : State) : ZspOf v (setZspAc v ac s) :=
  .of_withZsp (f := s.flags) rfl rfl rfl

theorem ZspOf.setPc {v : Byte} {t : State} (h : ZspOf v t) (next : Word) : ZspOf v (setPc next t) := h

/-- The frame of a register written with Z, S, P and AC. -/
theorem UnchangedExcept.setReg_setZspAc (rd : Reg) (v : Byte) (ac : Bool) (s : State) :
    UnchangedExcept [rd] false [.z, .s, .p, .ac] [] s (Machine.setZspAc v ac (Machine.setReg rd v s)) :=
  (UnchangedExcept.setReg (List.mem_singleton_self rd) v).trans
    (.setZspAc (by decide) (by decide) (by decide) (by decide) v ac)

/-- The frame of a cell written with Z, S, P and AC. -/
theorem UnchangedExcept.store_setZspAc (addr : Nat) (v : Byte) (ac : Bool) (s : State) :
    UnchangedExcept [] false [.z, .s, .p, .ac] [addr] s
      (Machine.setZspAc v ac (setMem (Memory.set s.mem addr v) s)) :=
  (UnchangedExcept.store (List.mem_singleton_self addr) v).trans
    (.setZspAc (by decide) (by decide) (by decide) (by decide) v ac)

/-- An instruction that commits a byte to a register, with its Z, S, P and an AC, and nothing else. -/
theorem completed_of_finish_setReg_setZspAc {n : Nat} {i : Instr} {s : State} {rd : Reg} {v : Byte} {ac : Bool}
    (hexec : exec i s = finish n s (.ok (setZspAc v ac (setReg rd v s)))) (hfits : Fits n s) :
    ∃ t, exec i s = .next t ∧ Completed n s t ∧ getReg rd t = v ∧ ZspOf v t ∧ t.flags.ac = ac ∧
      UnchangedExcept [rd] false [.z, .s, .p, .ac] [] s t := by
  obtain ⟨next, hnext, hcompleted⟩ := completed_of_finish hexec (setReg_pc rd v s) (setReg_run rd v s) hfits
  exact ⟨_, hnext, hcompleted, by simp, (ZspOf.setZspAc v ac _).setPc next, rfl,
    (UnchangedExcept.setReg_setZspAc rd v ac s).setPc next⟩

/-- An instruction that commits a byte to the cell at HL, with its Z, S, P and an AC, and nothing else. -/
theorem completed_of_finish_store_setZspAc {n : Nat} {i : Instr} {s : State} {v : Byte} {ac : Bool}
    (hexec : exec i s = finish n s (.ok (setZspAc v ac (setMem (Memory.set s.mem (hlAddr s) v) s)))) (hfits : Fits n s) :
    ∃ t, exec i s = .next t ∧ Completed n s t ∧ memRead (hlAddr s) t = .ok v ∧ ZspOf v t ∧ t.flags.ac = ac ∧
      UnchangedExcept [] false [.z, .s, .p, .ac] [hlAddr s] s t := by
  obtain ⟨next, hnext, hcompleted⟩ := completed_of_finish hexec rfl rfl hfits
  exact ⟨_, hnext, hcompleted, memRead_set_self (word_le_maxAddress _) s.mem v s,
    (ZspOf.setZspAc v ac _).setPc next, rfl, (UnchangedExcept.store_setZspAc (hlAddr s) v ac s).setPc next⟩

end Sys2Proof.Machine
end

section
/-! PROOFS. INR of a register and of the cell at HL (44_inc_dec.md R210, R211). -/

namespace Sys2Proof.Machine

theorem encode_inr (x : Src) : encode (.inr x) = [0b00000100#8 ||| x.code <<< 3] := by
  rcases x with r | _
  · cases r <;> rfl
  · rfl

theorem exec_inrReg_commits (rd : Reg) (s : State) :
    exec (.inr (.reg rd)) s =
      finish 0 s (.ok (setZspAc (inc8 (getReg rd s)).1 (inc8 (getReg rd s)).2 (setReg rd (inc8 (getReg rd s)).1 s))) :=
  exec_inrReg rd s

/-- HL addresses a cell of the address space, so the read and the store of INR M commit. -/
theorem exec_inrMem_commits (s : State) :
    exec (.inr .m) s =
      finish 0 s (.ok (setZspAc (inc8 (operand .m s)).1 (inc8 (operand .m s)).2
        (setMem (Memory.set s.mem (hlAddr s) (inc8 (operand .m s)).1) s))) := by
  rw [exec_inrMem, inrMemEffect_eq]

/-- Settles O41: the effect writes `inc8` of the register, with its flags. -/
theorem inrIncrementsTheRegister : Obligations.InrIncrementsTheRegister := by
  intro rd
  refine ⟨encode_inr (.reg rd), .of_finish (exec_inrReg_commits rd) (fun _ => setReg_pc _ _ _), fun s hfits => ?_⟩
  obtain ⟨t, hexec, hcompleted, hreg, hzsp, hac, hframe⟩ :=
    completed_of_finish_setReg_setZspAc (exec_inrReg_commits rd s) hfits
  rw [← hreg] at hzsp
  exact ⟨t, hexec, hcompleted, by rw [hreg, inc8_r], hzsp, by rw [hac, inc8_ac], hframe⟩

/-- Settles O42: the effect writes `inc8` of the byte at HL back to its cell, with its flags. -/
theorem inrMemoryIncrementsTheCell : Obligations.InrMemoryIncrementsTheCell := by
  refine ⟨encode_inr .m, .of_finish exec_inrMem_commits (fun _ => rfl), fun s hfits => ?_⟩
  obtain ⟨t, hexec, hcompleted, hcell, hzsp, hac, hframe⟩ :=
    completed_of_finish_store_setZspAc (exec_inrMem_commits s) hfits
  exact ⟨t, hexec, hcompleted, _, hcell, inc8_r _, hzsp, by rw [hac, inc8_ac], hframe⟩

end Sys2Proof.Machine
end

section
/-! PROOFS. INX and DCX, which write a pair and no flag (44_inc_dec.md R214, R215). -/

namespace Sys2Proof.Machine

/-! ### The encodings -/

theorem encode_inx (p : Pair) : encode (.inx p) = [0b00000011#8 ||| p.code <<< 4] := by cases p <;> rfl

theorem encode_dcx (p : Pair) : encode (.dcx p) = [0b00001011#8 ||| p.code <<< 4] := by cases p <;> rfl

/-! ### The committed effects -/

theorem exec_inx_commits (p : Pair) (s : State) :
    exec (.inx p) s = finish 0 s (.ok (setPair p (getPair p s + 1#16) s)) := exec_inx p s

theorem exec_dcx_commits (p : Pair) (s : State) :
    exec (.dcx p) s = finish 0 s (.ok (setPair p (getPair p s - 1#16) s)) := exec_dcx p s

/-- An instruction that commits a value to a pair or SP, and nothing else. -/
theorem completed_of_finish_setPair {n : Nat} {i : Instr} {s : State} {p : Pair} {v : Word}
    (hexec : exec i s = finish n s (.ok (setPair p v s))) (hfits : Fits n s) :
    ∃ t, exec i s = .next t ∧ Completed n s t ∧ getPair p t = v ∧
      UnchangedExcept (pairHalves p) (p == .sp) [] [] s t := by
  obtain ⟨next, hnext, hcompleted⟩ := completed_of_finish hexec (setPair_pc p v s) (setPair_run p v s) hfits
  exact ⟨_, hnext, hcompleted, by simp, (setPair_frame p v s).setPc next⟩

/-- Settles O45: the effect writes the pair alone, with its value plus 1 in 16 bits. -/
theorem inxIncrementsThePair : Obligations.InxIncrementsThePair := by
  intro p
  refine ⟨encode_inx p, .of_finish (exec_inx_commits p) (fun _ => setPair_pc _ _ _), fun s hfits => ?_⟩
  obtain ⟨t, hexec, hcompleted, hpair, hframe⟩ := completed_of_finish_setPair (exec_inx_commits p s) hfits
  exact ⟨t, hexec, hcompleted, by simp [hpair], hframe⟩

/-- Settles O46: the effect writes the pair alone, with its value minus 1 in 16 bits. -/
theorem dcxDecrementsThePair : Obligations.DcxDecrementsThePair := by
  intro p
  refine ⟨encode_dcx p, .of_finish (exec_dcx_commits p) (fun _ => setPair_pc _ _ _), fun s hfits => ?_⟩
  obtain ⟨t, hexec, hcompleted, hpair, hframe⟩ := completed_of_finish_setPair (exec_dcx_commits p s) hfits
  exact ⟨t, hexec, hcompleted, by simp [hpair, BitVec.toNat_sub, Nat.add_comm], hframe⟩

end Sys2Proof.Machine
end

section
/-! PROOFS. The end every 8-bit arithmetic form shares (45_arithmetic.md): the wrapped result written to A, with all five
flags. -/

namespace Sys2Proof.Machine

/-- The frame of A written with all five flags. -/
theorem UnchangedExcept.setResult (x : Alu8) (s : State) :
    UnchangedExcept [.a] false [.z, .s, .p, .ac, .cy] [] s (Machine.setResult x s) :=
  (UnchangedExcept.setReg (List.mem_singleton_self Reg.a) x.r).trans
    (.setAllFlags (fun f => by cases f <;> decide) x)

/-- An instruction that commits a result to A, with its Z, S, P, AC and CY, and nothing else. -/
theorem completed_of_finish_setResult {n : Nat} {i : Instr} {s : State} {x : Alu8}
    (hexec : exec i s = finish n s (.ok (setResult x s))) (hfits : Fits n s) :
    ∃ t, exec i s = .next t ∧ Completed n s t ∧ t.a = x.r ∧ ZspOf x.r t ∧ t.flags.cy = x.cy ∧ t.flags.ac = x.ac ∧
      UnchangedExcept [.a] false [.z, .s, .p, .ac, .cy] [] s t := by
  obtain ⟨next, hnext, hcompleted⟩ := completed_of_finish hexec rfl rfl hfits
  exact ⟨_, hnext, hcompleted, rfl, .of_withZsp (f := s.flags) rfl rfl rfl, rfl, rfl,
    (UnchangedExcept.setResult x s).setPc next⟩

end Sys2Proof.Machine
end

section
/-! PROOFS. ADD and ADC of a register and of the cell at HL (45_arithmetic.md R230 to R233). -/

namespace Sys2Proof.Machine

/-! ### The encodings -/

theorem encode_add (x : Src) : encode (.add x) = [0b10000000#8 ||| x.code] := by
  rcases x with r | _
  · cases r <;> rfl
  · rfl

theorem encode_adc (x : Src) : encode (.adc x) = [0b10001000#8 ||| x.code] := by
  rcases x with r | _
  · cases r <;> rfl
  · rfl

/-! ### The committed effects -/

theorem exec_add_commits (x : Src) (s : State) :
    exec (.add x) s = finish 0 s (.ok (setResult (add8 s.a (operand x s) false) s)) := by
  rw [exec_add, addEffect_eq]

/-- The carry added is the CY of the starting state. -/
theorem exec_adc_commits (x : Src) (s : State) :
    exec (.adc x) s = finish 0 s (.ok (setResult (add8 s.a (operand x s) s.flags.cy) s)) := by
  rw [exec_adc, adcEffect_eq]

/-- Settles O47: the effect writes `add8` of A and the operand with carry-in 0, with its flags. -/
theorem addAddsToTheAccumulator : Obligations.AddAddsToTheAccumulator := by
  intro x
  refine ⟨encode_add x, .of_finish (exec_add_commits x) (fun _ => rfl), fun s hfits => ?_⟩
  obtain ⟨t, hexec, hcompleted, ha, hzsp, hcy, hac, hframe⟩ := completed_of_finish_setResult (exec_add_commits x s) hfits
  rw [← ha] at hzsp
  exact ⟨t, hexec, hcompleted, by rw [ha, add8_r]; rfl, hzsp, by rw [hcy, add8_cy]; rfl, by rw [hac, add8_ac]; rfl, hframe⟩

/-- Settles O48: the effect writes `add8` of A and the operand with the old CY as carry-in, with its flags. -/
theorem adcAddsWithCarry : Obligations.AdcAddsWithCarry := by
  intro x
  refine ⟨encode_adc x, .of_finish (exec_adc_commits x) (fun _ => rfl), fun s hfits => ?_⟩
  obtain ⟨t, hexec, hcompleted, ha, hzsp, hcy, hac, hframe⟩ := completed_of_finish_setResult (exec_adc_commits x s) hfits
  rw [← ha] at hzsp
  exact ⟨t, hexec, hcompleted, by rw [ha, add8_r], hzsp, by rw [hcy, add8_cy], by rw [hac, add8_ac], hframe⟩

end Sys2Proof.Machine
end

section
/-! PROOFS. DAD, which writes HL and CY alone (45_arithmetic.md R238). -/

namespace Sys2Proof.Machine

theorem encode_dad (p : Pair) : encode (.dad p) = [0b00001001#8 ||| p.code <<< 4] := by cases p <;> rfl

theorem exec_dad_commits (p : Pair) (s : State) :
    exec (.dad p) s =
      finish 0 s (.ok (setCarry (add16 (getPair .hl s) (getPair p s)).2
        (setPair .hl (add16 (getPair .hl s) (getPair p s)).1 s))) := exec_dad p s

/-- The frame of HL written with CY. -/
theorem UnchangedExcept.setPair_hl_setCarry (v : Word) (cy : Bool) (s : State) :
    UnchangedExcept [.h, .l] false [.cy] [] s (Machine.setCarry cy (Machine.setPair .hl v s)) :=
  (UnchangedExcept.setPair (p := .hl) (fun _ h => h) nofun v).trans (.setCarry (List.mem_singleton_self Flag.cy) cy)

/-- Settles O51: the effect writes `add16` of HL and the pair to HL, with its CY. -/
theorem dadAddsThePairToHl : Obligations.DadAddsThePairToHl := by
  intro p
  refine ⟨encode_dad p, .of_finish (exec_dad_commits p) (fun _ => rfl), fun s hfits => ?_⟩
  obtain ⟨next, hexec, hcompleted⟩ := completed_of_finish (exec_dad_commits p s) rfl rfl hfits
  exact ⟨_, hexec, hcompleted, by rw [getPair_setPc, getPair_setCarry, getPair_setPair_self, add16_r],
    add16_cy (getPair .hl s) (getPair p s), (UnchangedExcept.setPair_hl_setCarry _ _ s).setPc next⟩

end Sys2Proof.Machine
end

section
/-! PROOFS. CMA, which writes A and no flag, and STC and CMC, which write CY alone (47_complement_carry.md R270 to R272). -/

namespace Sys2Proof.Machine

/-! ### The committed effects -/

theorem exec_cma_commits (s : State) : exec .cma s = finish 0 s (.ok (setReg .a (~~~s.a) s)) := exec_cma s

theorem exec_stc_commits (s : State) : exec .stc s = finish 0 s (.ok (setCarry true s)) := exec_stc s

/-- The carry inverted is the CY of the starting state. -/
theorem exec_cmc_commits (s : State) : exec .cmc s = finish 0 s (.ok (setCarry (!s.flags.cy) s)) := exec_cmc s

/-- An instruction that commits a CY, and nothing else. -/
theorem completed_of_finish_setCarry {n : Nat} {i : Instr} {s : State} {cy : Bool}
    (hexec : exec i s = finish n s (.ok (setCarry cy s))) (hfits : Fits n s) :
    ∃ t, exec i s = .next t ∧ Completed n s t ∧ t.flags.cy = cy ∧ UnchangedExcept [] false [.cy] [] s t := by
  obtain ⟨next, hnext, hcompleted⟩ := completed_of_finish hexec rfl rfl hfits
  exact ⟨_, hnext, hcompleted, rfl, (UnchangedExcept.setCarry (List.mem_singleton_self Flag.cy) cy).setPc next⟩

/-- Settles O55: the effect writes A alone, and the complement of a byte is 255 minus it. -/
theorem cmaComplementsTheAccumulator : Obligations.CmaComplementsTheAccumulator := by
  refine ⟨rfl, .of_finish exec_cma_commits (fun _ => rfl), fun s hfits => ?_⟩
  obtain ⟨next, hexec, hcompleted⟩ := completed_of_finish (exec_cma_commits s) rfl rfl hfits
  exact ⟨_, hexec, hcompleted, BitVec.toNat_not,
    (UnchangedExcept.setReg (List.mem_singleton_self Reg.a) (~~~s.a)).setPc next⟩

/-- Settles O56: both effects write CY alone, STC with 1 and CMC with the complement of the old CY. -/
theorem carryInstructionsWriteOnlyCarry : Obligations.CarryInstructionsWriteOnlyCarry :=
  ⟨⟨rfl, .of_finish exec_stc_commits (fun _ => rfl), fun s => completed_of_finish_setCarry (exec_stc_commits s)⟩,
    rfl, .of_finish exec_cmc_commits (fun _ => rfl), fun s => completed_of_finish_setCarry (exec_cmc_commits s)⟩

end Sys2Proof.Machine
end

section
/-! PROOFS. NOP, which commits the state it starts in, so that the PC advance is its only write; and the opcode of NOP in
every cell of a session just created (48_control.md R280). -/

namespace Sys2Proof.Machine

/-- NOP commits the starting state itself. -/
theorem exec_nop_commits (s : State) : exec .nop s = finish 0 s (.ok s) := exec_nop s

/-- In a session just created no cell is listed, so the port reads every address as zero (10_state.md R43, R44). -/
theorem memRead_create {addr : Nat} (h : addr ≤ Config.maxAddress) (init : InitRegs) (rule : SubAcRule) :
    memRead addr (State.create init rule) = .ok Config.blankByte := memRead_of_le h _

/-- Settles O57: NOP commits the starting state, so only the PC advance is left, and a created session's cells are blank. -/
theorem nopOnlyAdvancesPc : Obligations.NopOnlyAdvancesPc := by
  refine ⟨rfl, .of_finish (effect := id) exec_nop_commits (fun _ => rfl), fun s hfits => ?_,
    fun init rule addr haddr => ?_⟩
  · obtain ⟨next, hexec, hcompleted⟩ := completed_of_finish (exec_nop_commits s) rfl rfl hfits
    exact ⟨_, hexec, hcompleted, UnchangedExcept.refl.setPc next⟩
  · exact memRead_create haddr init rule

end Sys2Proof.Machine
end

section
/-! PROOFS. `load`: what its bound decides, and the cells of the program it stores (70_reset_and_hazards.md R341, R342). -/

namespace Sys2Proof.Machine

/-! ### The bound -/

/-- Under either LOAD_LIMIT a program that is loaded ends inside the address space. -/
theorem loadBound_le (limit : LoadLimit) : Config.loadBound limit ≤ Config.maxAddress + 1 := by
  cases limit <;> decide

theorem load_of_gt {limit : LoadLimit} {bytes : List Byte} {start : Word}
    (h : Config.loadBound limit < start.toNat + bytes.length) (s : State) :
    load limit bytes start s = .programTooLarge start.toNat bytes.length := if_pos h

theorem load_of_le {limit : LoadLimit} {bytes : List Byte} {start : Word}
    (h : start.toNat + bytes.length ≤ Config.loadBound limit) (s : State) :
    load limit bytes start s = .loaded (setPc start (setMem (storeBytes s.mem start.toNat bytes) s)) :=
  if_neg (Nat.not_lt.mpr h)

/-! ### Reads after a program is stored -/

/-- Byte `k` of a program stored inside the address space is read at its base plus `k`. -/
theorem memRead_storeBytes_of_lt {base k : Nat} {bytes : List Byte}
    (hfits : base + bytes.length ≤ Config.maxAddress + 1) (hk : k < bytes.length) (m : Memory) (s : State) :
    memRead (base + k) (setMem (storeBytes m base bytes) s) = .ok bytes[k] := by
  have inProgram : base ≤ base + k ∧ base + k < base + bytes.length := by omega
  rw [memRead_of_le (by omega), setMem_mem, Memory.get_storeBytes, if_pos inProgram, Nat.add_sub_cancel_left,
    List.getD_eq_getElem _ _ hk]

/-- An address outside a stored program reads as before. -/
theorem memRead_storeBytes_of_outside {base addr : Nat} {bytes : List Byte}
    (h : addr < base ∨ base + bytes.length ≤ addr) (s : State) :
    memRead addr (setMem (storeBytes s.mem base bytes) s) = memRead addr s := by
  have notInProgram : ¬(base ≤ addr ∧ addr < base + bytes.length) := by omega
  rw [memRead, setMem_mem, Memory.get_storeBytes, if_neg notInProgram, memRead]

/-- Settles O20, of every state and not only one just created: the bound selects the answer, and the loaded state is the
starting one with the program stored and PC set. -/
theorem loadCopiesTheProgramAndSetsPc : Obligations.LoadCopiesTheProgramAndSetsPc := by
  intro limit bytes start _ _ s _
  refine ⟨fun hpast => load_of_gt hpast s,
    fun hfits => ⟨_, load_of_le hfits s, fun k hk => ?_, fun addr haddr => ?_, rfl, rfl⟩⟩
  · rw [memRead_setPc, memRead_storeBytes_of_lt (hfits.trans (loadBound_le limit)) hk]
  · rw [memRead_setPc, memRead_storeBytes_of_outside haddr]

/-- Settles O22: a program of one byte at 0xFFFF ends at 0x10000, which passes the default bound and meets the other
(92_eei_decisions.md D12); what is loaded then is read off O20. -/
theorem loadLimitDecidesTheTopByte : Obligations.LoadLimitDecidesTheTopByte := by
  intro v init rule s hs
  have past : Config.loadBound .ffff < (0xFFFF#16).toNat + [v].length := Nat.lt_add_one 0xFFFF
  have within : (0xFFFF#16).toNat + [v].length ≤ Config.loadBound .addressSpace := Nat.le_refl 0x10000
  obtain ⟨t, hload, hbytes, -, hpc, -⟩ :=
    (loadCopiesTheProgramAndSetsPc .addressSpace [v] 0xFFFF#16 init rule s hs).2 within
  exact ⟨load_of_gt past s, t, hload, hbytes 0 Nat.zero_lt_one, hpc⟩

end Sys2Proof.Machine
end

section
/-! PROOFS. Decoding what the encoder writes gives the instruction back, the opcode byte fixes the length, and the opcodes
that decode to `unimplemented` are the 103 listed (30_encoding.md sections 1 to 5). -/

namespace Sys2Proof

/-! ### The round trips -/

/-- Instructions of formats F0 and F1 decode by evaluation; a 16-bit operand is joined again from its two bytes, and an
unimplemented opcode decodes to itself because the instruction is well formed. -/
theorem decode_encode_append (i : Instr) : Laws.RoundTrip.Statement i := by
  cases i with
  | lxiB d16 => exact Laws.RoundTrip.lxiB d16
  | lxiD d16 => exact Laws.RoundTrip.lxiD d16
  | lxiH d16 => exact Laws.RoundTrip.lxiH d16
  | lxiSP d16 => exact Laws.RoundTrip.lxiSP d16
  | shld a16 => exact Laws.RoundTrip.shld a16
  | lhld a16 => exact Laws.RoundTrip.lhld a16
  | sta a16 => exact Laws.RoundTrip.sta a16
  | lda a16 => exact Laws.RoundTrip.lda a16
  | unimplemented op => exact Laws.RoundTrip.unimplemented op
  | _ => exact fun _ _ => rfl

/-- Settles O1, from the round trip of each constructor. -/
theorem decodeOfEncodeIsTheInstruction : Obligations.DecodeOfEncodeIsTheInstruction :=
  fun i rest hwf => decode_encode_append i hwf rest

/-- Settles O2: each entry of the opcode table encodes back to its opcode. -/
theorem encodeOfDecodeIsTheBytes : Obligations.EncodeOfDecodeIsTheBytes :=
  fun _ _ _ => encode_append_of_decode

/-- Settles O3, by evaluating the decoder on the thirteen words. -/
theorem sampleWordsDecodeByFamily : Obligations.SampleWordsDecodeByFamily :=
  ⟨rfl, rfl, rfl, rfl, rfl, rfl, rfl, rfl, rfl, rfl, rfl, rfl, rfl⟩

/-! ### The length -/

theorem OpcodeEntry.operandLength_le_two (t : OpcodeEntry) : t.operandLength ≤ 2 := by
  cases t <;> simp [OpcodeEntry.operandLength]

/-- With all its operand bytes there the opcode decodes, and takes exactly those. -/
theorem decode_cons_of_le {op : Byte} {rest : List Byte} (h : (decodeOpcode op).operandLength ≤ rest.length) :
    ∃ i, decode (op :: rest) = .ok (i, rest.drop (decodeOpcode op).operandLength) := by
  cases hd : decodeOpcode op with
  | f0 i => exact ⟨i, by simp [decode, hd, OpcodeEntry.operandLength]⟩
  | f1 k =>
    rcases rest with _ | ⟨b1, rest⟩
    · simp [hd, OpcodeEntry.operandLength] at h
    · exact ⟨k b1, by simp [decode, hd, OpcodeEntry.operandLength]⟩
  | f2 k =>
    rcases rest with _ | ⟨b1, _ | ⟨b2, rest⟩⟩
    · simp [hd, OpcodeEntry.operandLength] at h
    · simp [hd, OpcodeEntry.operandLength] at h
    · exact ⟨k (joinBytes b2 b1), by simp [decode, hd, OpcodeEntry.operandLength]⟩

/-- An opcode short of an operand byte does not decode. -/
theorem decode_cons_of_lt {op : Byte} {rest : List Byte} (h : rest.length < (decodeOpcode op).operandLength) :
    decode (op :: rest) = .error (.missingOperand op) := by
  cases hd : decodeOpcode op with
  | f0 i => simp [hd, OpcodeEntry.operandLength] at h
  | f1 k =>
    rcases rest with _ | ⟨b1, rest⟩
    · simp [decode, hd]
    · simp [hd, OpcodeEntry.operandLength] at h
  | f2 k =>
    rcases rest with _ | ⟨b1, _ | ⟨b2, rest⟩⟩
    · simp [decode, hd]
    · simp [decode, hd]
    · simp [hd, OpcodeEntry.operandLength] at h

theorem decode_cons_isOk_iff (op : Byte) (rest : List Byte) :
    (∃ x, decode (op :: rest) = .ok x) ↔ (decodeOpcode op).operandLength ≤ rest.length := by
  constructor
  · rintro ⟨x, hx⟩
    by_contra hshort
    rw [decode_cons_of_lt (by omega)] at hx
    cases hx
  · intro h
    obtain ⟨i, hi⟩ := decode_cons_of_le h
    exact ⟨_, hi⟩

/-- The instruction's own length is read off the bytes that its encoding takes. -/
theorem operandLength_of_decode_cons {op : Byte} {rest after : List Byte} {i : Instr}
    (h : decode (op :: rest) = .ok (i, after)) :
    Machine.operandLength i = (decodeOpcode op).operandLength ∧
      after = rest.drop (decodeOpcode op).operandLength := by
  have hle := (decode_cons_isOk_iff op rest).mp ⟨_, h⟩
  obtain ⟨j, hj⟩ := decode_cons_of_le hle
  cases h.symm.trans hj
  have hlen := congrArg List.length (encode_append_of_decode h).2
  rw [List.length_append, Machine.length_encode, List.length_drop, List.length_cons] at hlen
  exact ⟨by omega, rfl⟩

/-- Settles O4: the operand bytes that follow decide whether the opcode decodes. -/
theorem lengthIsFixedByTheOpcode : Obligations.LengthIsFixedByTheOpcode := fun op rest =>
  ⟨(decodeOpcode op).operandLength_le_two, decode_cons_isOk_iff op rest, fun _ _ => operandLength_of_decode_cons⟩

/-! ### The unimplemented opcodes -/

/-- The predicate of `Instr.wf` is the list of 30_encoding.md R100. -/
theorem unimplementedOpcode_iff (op : Byte) :
    unimplementedOpcode op = true ↔
      op.toNat ∈ [0x08, 0x10, 0x18, 0x20, 0x28, 0x30, 0x38] ∨ (0xA0 ≤ op.toNat ∧ op.toNat ≤ 0xBF) ∨
        (0xC0 ≤ op.toNat ∧ op.toNat ≤ 0xFF) := by
  revert op
  decide

theorem decode_cons_unimplemented_iff (b op : Byte) (rest : List Byte) :
    decode (b :: rest) = .ok (.unimplemented op, rest) ↔ b = op ∧ unimplementedOpcode op = true := by
  constructor
  · intro h
    obtain ⟨hwf, hbytes⟩ := encode_append_of_decode h
    exact ⟨(List.cons.inj hbytes).1.symm, hwf⟩
  · rintro ⟨rfl, hop⟩
    exact decodeOfEncodeIsTheInstruction (.unimplemented b) rest hop

/-- Settles O5: what decodes to `unimplemented` is one byte that `Instr.wf` admits. -/
theorem unimplementedOpcodesAreTheListedOnes : Obligations.UnimplementedOpcodesAreTheListedOnes :=
  ⟨fun b op rest => (decode_cons_unimplemented_iff b op rest).trans (and_congr_right' (unimplementedOpcode_iff op)),
    by decide⟩

end Sys2Proof
end

section
/-! PROOFS. A step is the fetched instruction or the operand fetch fault (41_engine_loop.md R142 to R144, R151). -/

namespace Sys2Proof.Machine

theorem fetch_of_decode {s : State} {i : Instr} {rest : List Byte} (h : decode (codeBytes s) = .ok (i, rest)) :
    fetch s = .ok i := by
  rw [fetch_eq, h]

theorem step_of_fetch {s : State} {i : Instr} (hrun : s.run = .fetching) (h : fetch s = .ok i) : step s = exec i s := by
  rw [step_of_fetching hrun, h]

/-- Settles O6: fetching decodes the bytes at PC. -/
theorem stepRunsTheDecodedInstruction : Obligations.StepRunsTheDecodedInstruction := fun _ _ _ hrun hdecode =>
  ⟨(encode_append_of_decode hdecode).1, step_of_fetch hrun (fetch_of_decode hdecode)⟩

/-- The code bytes start with the opcode that the port reads at PC. -/
theorem codeBytes_of_memRead {s : State} {op : Byte} (h : memRead s.pc.toNat s = .ok op) :
    ∃ rest, codeBytes s = op :: rest := by
  rw [memRead_word, Except.ok.injEq] at h
  have head := codeBytes_head s
  rw [h] at head
  exact List.head?_eq_some_iff.mp head

/-- Past 0xFFFF the code bytes are too few for the opcode's operand. -/
theorem fetch_of_operand_past_top {s : State} {op : Byte} (hread : memRead s.pc.toNat s = .ok op)
    (hpast : 0xFFFF < s.pc.toNat + (decodeOpcode op).operandLength) : fetch s = .error (.memoryFault 0x10000) := by
  obtain ⟨rest, hcode⟩ := codeBytes_of_memRead hread
  have hlen := pc_add_length_codeBytes_le s
  rw [hcode, List.length_cons] at hlen
  rw [fetch_eq, hcode, decode_cons_of_lt (by omega)]

/-- Settles O7: the fetch faults before anything is executed. -/
theorem operandFetchPastTopHalts : Obligations.OperandFetchPastTopHalts := by
  intro op s hrun hread hpast
  rw [step_of_fetching hrun, fetch_of_operand_past_top hread hpast]
  rfl

/-- The operand fetch fault of an opcode whose operand length is known. -/
theorem OperandFetchHalts.of_operandLength {n : Nat} {op : Byte} (h : (decodeOpcode op).operandLength = n) :
    OperandFetchHalts n op := h ▸ operandFetchPastTopHalts op

/-- An unimplemented opcode asks for no operand byte, so its fetch succeeds wherever PC stands. -/
theorem fetch_of_unimplemented {s : State} {op : Byte} (hread : memRead s.pc.toNat s = .ok op)
    (hop : unimplementedOpcode op = true) : fetch s = .ok (.unimplemented op) := by
  obtain ⟨rest, hcode⟩ := codeBytes_of_memRead hread
  exact fetch_of_decode (hcode ▸ (decode_cons_unimplemented_iff op op rest).mpr ⟨rfl, hop⟩)

/-- Settles O12: the opcode is fetched whatever follows it, and executing it only records the fault. -/
theorem unimplementedOpcodeHalts : Obligations.UnimplementedOpcodeHalts := fun s op =>
  ⟨exec_unimplemented op s, fun hrun hread hop =>
    (step_of_fetch hrun (fetch_of_unimplemented hread hop)).trans (exec_unimplemented op s)⟩

end Sys2Proof.Machine
end

section
/-! PROOFS. HLT halts normally and leaves all but PC and the engine state alone (41_engine_loop.md R149; 48_control.md
R281). -/

namespace Sys2Proof.Machine

/-- HLT writes PC, the engine state and the count of draws alone. -/
theorem halt_frame {s t : State} (h : halt s = .next t) : UnchangedExcept [] false [] [] s { t with draws := s.draws } := by
  rcases Nat.lt_or_ge 0xFFFF (s.pc.toNat + 1) with htop | hfits
  · rw [halt_at_top htop] at h
    cases h
    exact (UnchangedExcept.refl.setPc (Config.pcAfterTopHlt s.draws)).setRun (.halted .hlt)
  · rw [halt_of_fits hfits] at h
    cases h
    exact (UnchangedExcept.refl.setPc _).setRun (.halted .hlt)

/-- Settles O13: the two ends of `halt` differ in PC and the count of draws alone. -/
theorem hltHaltsTheEngine : Obligations.HltHaltsTheEngine := by
  refine ⟨rfl, fun s hfits => ?_, fun s htop => ?_⟩
  · have hexec := halt_of_fits hfits
    have hframe := halt_frame hexec
    exact ⟨_, hexec, rfl, ofNat_toNat_of_le hfits, hframe⟩
  · have hexec := halt_at_top (s := s) (by rw [htop]; decide)
    have hframe := halt_frame hexec
    exact ⟨_, hexec, rfl, hframe⟩

end Sys2Proof.Machine
end

section
/-! PROOFS. The closed form of the effects that remain, one lemma per instruction shape: what is committed where nothing
faults (42_data_move.md to 46_rotate.md). -/

namespace Sys2Proof.Machine

theorem exec_mviReg_commits (rd : Reg) (d8 : Byte) (s : State) :
    exec (.mvi (.reg rd) d8) s = finish 1 s (.ok (setReg rd d8 s)) := exec_mviReg rd d8 s

theorem exec_mviMem_commits (d8 : Byte) (s : State) :
    exec (.mvi .m d8) s = finish 1 s (.ok (setMem (Memory.set s.mem (hlAddr s) d8) s)) := by
  rw [exec_mviMem, mviMemEffect, memWrite_hlAddr]

theorem exec_lxi_commits (p : Pair) (d16 : Word) (s : State) :
    exec (.lxi p d16) s = finish 2 s (.ok (setPair p d16 s)) := exec_lxi p d16 s

theorem exec_shld_commits {a16 : Word} (h : a16.toNat < 0xFFFF) (s : State) :
    exec (.shld a16) s =
      finish 2 s (.ok (setMem (Memory.set (Memory.set s.mem a16.toNat s.l) (a16.toNat + 1) s.h) s)) := by
  rw [exec_shld, shldEffect_of_lt h]

theorem exec_shld_at_top {a16 : Word} (h : a16.toNat = 0xFFFF) (s : State) :
    exec (.shld a16) s = .next (setRun (.halted (.memoryFault 0x10000)) s) := by
  rw [exec_shld, shldEffect_at_top h, finish_error]

theorem exec_lhld_commits {a16 : Word} (h : a16.toNat < 0xFFFF) (s : State) :
    exec (.lhld a16) s =
      finish 2 s (.ok (setReg .l (Memory.get s.mem a16.toNat) (setReg .h (Memory.get s.mem (a16.toNat + 1)) s))) := by
  rw [exec_lhld, lhldEffect_of_lt h]

theorem exec_lhld_at_top {a16 : Word} (h : a16.toNat = 0xFFFF) (s : State) :
    exec (.lhld a16) s = .next (setRun (.halted (.memoryFault 0x10000)) s) := by
  rw [exec_lhld, lhldEffect_at_top h, finish_error]

theorem exec_sta_commits (a16 : Word) (s : State) :
    exec (.sta a16) s = finish 2 s (.ok (setMem (Memory.set s.mem a16.toNat s.a) s)) := by
  rw [exec_sta, staEffect, memWrite_word]

theorem exec_lda_commits (a16 : Word) (s : State) :
    exec (.lda a16) s = finish 2 s (.ok (setReg .a (Memory.get s.mem a16.toNat) s)) := by
  rw [exec_lda, ldaEffect_eq]

theorem exec_dcrReg_commits (rd : Reg) (s : State) :
    exec (.dcr (.reg rd)) s =
      finish 0 s (.ok (setZspAc (dec8 s.subAcRule (getReg rd s)).1 (dec8 s.subAcRule (getReg rd s)).2
        (setReg rd (dec8 s.subAcRule (getReg rd s)).1 s))) :=
  exec_dcrReg rd s

theorem exec_dcrMem_commits (s : State) :
    exec (.dcr .m) s =
      finish 0 s (.ok (setZspAc (dec8 s.subAcRule (operand .m s)).1 (dec8 s.subAcRule (operand .m s)).2
        (setMem (Memory.set s.mem (hlAddr s) (dec8 s.subAcRule (operand .m s)).1) s))) := by
  rw [exec_dcrMem, dcrMemEffect_eq]

theorem exec_sub_commits (x : Src) (s : State) :
    exec (.sub x) s = finish 0 s (.ok (setResult (sub8 s.subAcRule s.a (operand x s) false) s)) := by
  rw [exec_sub, subEffect_eq]

/-- The borrow subtracted is the CY of the starting state. -/
theorem exec_sbb_commits (x : Src) (s : State) :
    exec (.sbb x) s = finish 0 s (.ok (setResult (sub8 s.subAcRule s.a (operand x s) s.flags.cy) s)) := by
  rw [exec_sbb, sbbEffect_eq]

theorem exec_daa_commits (s : State) :
    exec .daa s = finish 0 s (.ok (setResult (daa8 s.a s.flags.ac s.flags.cy) s)) := exec_daa s

theorem exec_rlc_commits (s : State) :
    exec .rlc s = finish 0 s (.ok (setRotated (shiftLeftIn s.a (s.a.getLsbD 7)) (s.a.getLsbD 7) s)) := exec_rlc s

theorem exec_rrc_commits (s : State) :
    exec .rrc s = finish 0 s (.ok (setRotated (shiftRightIn s.a (s.a.getLsbD 0)) (s.a.getLsbD 0) s)) := exec_rrc s

theorem exec_ral_commits (s : State) :
    exec .ral s = finish 0 s (.ok (setRotated (shiftLeftIn s.a s.flags.cy) (s.a.getLsbD 7) s)) := exec_ral s

theorem exec_rar_commits (s : State) :
    exec .rar s = finish 0 s (.ok (setRotated (shiftRightIn s.a s.flags.cy) (s.a.getLsbD 0) s)) := exec_rar s

end Sys2Proof.Machine
end

section
/-! PROOFS. No instruction writes outside the tables of `Machine/Footprint.lean` (40_flag_policy.md R127; 10_state.md R32,
R34). -/

namespace Sys2Proof.Machine

/-! ### Frames of the committed effects -/

/-- The frame of A and CY written: every rotate. -/
theorem UnchangedExcept.setRotated (r : Byte) (c : Bool) (s : State) :
    UnchangedExcept [.a] false [.cy] [] s (Machine.setRotated r c s) :=
  (UnchangedExcept.setReg (List.mem_singleton_self Reg.a) r).trans (.setCarry (List.mem_singleton_self Flag.cy) c)

/-- The frame of L and H loaded: LHLD. -/
theorem UnchangedExcept.setReg_h_setReg_l (lo hi : Byte) (s : State) :
    UnchangedExcept [.h, .l] false [] [] s (Machine.setReg .l lo (Machine.setReg .h hi s)) :=
  (UnchangedExcept.setReg (by decide) hi).trans (.setReg (by decide) lo)

/-- The frame of two neighbouring cells stored: SHLD. -/
theorem UnchangedExcept.store_store (addr : Nat) (lo hi : Byte) (s : State) :
    UnchangedExcept [] false [] [addr, addr + 1] s
      (setMem (Memory.set (Memory.set s.mem addr lo) (addr + 1) hi) s) :=
  (UnchangedExcept.store (by simp) lo).trans (.store (by simp) hi)

theorem UnchangedExcept.advance {regs : List Reg} {sp : Bool} {flags : List Flag} {stored : List Nat} {s t : State}
    (h : UnchangedExcept regs sp flags stored s t) (n : Nat) :
    UnchangedExcept regs sp flags stored s (Machine.advance n t) := by
  rcases advance_cases n t with ⟨-, ht⟩ | ⟨-, ht⟩
  · rw [ht]
    exact h.setPc _
  · rw [ht]
    exact h.setRun _

/-! ### The tables, held against the meanings -/

/-- The instruction changes nothing that its tables do not list, PC, the engine state and the count of draws aside. -/
def KeepsFootprint (i : Instr) (s : State) : Prop :=
  ∀ t, exec i s = .next t →
    UnchangedExcept (writtenRegs i) (writesSp i) (declaredFlags i) (storedAddrs i s) s { t with draws := s.draws }

/-- What the tables list for an instruction that starts in `s`. -/
def TablesList (i : Instr) (s : State) (regs : List Reg) (sp : Bool) (flags : List Flag) (stored : List Nat) : Prop :=
  writtenRegs i = regs ∧ writesSp i = sp ∧ declaredFlags i = flags ∧ storedAddrs i s = stored

/-- An effect that changes only what the tables list keeps its footprint: the PC advance writes nothing else. -/
theorem KeepsFootprint.of_commits {n : Nat} {i : Instr} {s u : State} {regs : List Reg} {sp : Bool} {flags : List Flag}
    {stored : List Nat} (hexec : exec i s = finish n s (.ok u)) (hframe : UnchangedExcept regs sp flags stored s u)
    (htables : TablesList i s regs sp flags stored) : KeepsFootprint i s := by
  intro t ht
  obtain ⟨rfl, rfl, rfl, rfl⟩ := htables
  cases hexec.symm.trans ht
  obtain ⟨-, -, -, -, -, hdraws⟩ := hframe.advance n
  rw [← hdraws]
  exact hframe.advance n

/-- A fault before the commit changes nothing but the engine state. -/
theorem KeepsFootprint.of_fault {i : Instr} {s : State} {f : HaltReason}
    (hexec : exec i s = .next (setRun (.halted f) s)) : KeepsFootprint i s := by
  intro t ht
  cases hexec.symm.trans ht
  exact UnchangedExcept.refl.setRun (.halted f)

theorem keepsFootprint_shld (a16 : Word) (s : State) : KeepsFootprint (.shld a16) s := by
  rcases word_lt_ffff_or_eq a16 with h | rfl
  · exact .of_commits (exec_shld_commits h s) (.store_store _ _ _ s) ⟨rfl, rfl, rfl, rfl⟩
  · exact .of_fault (exec_shld_at_top rfl s)

theorem keepsFootprint_lhld (a16 : Word) (s : State) : KeepsFootprint (.lhld a16) s := by
  rcases word_lt_ffff_or_eq a16 with h | rfl
  · exact .of_commits (exec_lhld_commits h s) (.setReg_h_setReg_l _ _ s) ⟨rfl, rfl, rfl, rfl⟩
  · exact .of_fault (exec_lhld_at_top rfl s)

/-- One case per instruction shape: the frame of its effect, and its rows of the tables. -/
theorem exec_keepsFootprint (i : Instr) (s : State) : KeepsFootprint i s := by
  induction i using Instr.byShape with
  | movReg rd rs =>
    exact .of_commits (exec_movReg_commits rd rs s) (.setReg (List.mem_singleton_self rd) _)
      (by cases rd <;> cases rs <;> exact ⟨rfl, rfl, rfl, rfl⟩)
  | movLoad rd =>
    exact .of_commits (exec_movLoad_commits rd s) (.setReg (List.mem_singleton_self rd) _)
      (by cases rd <;> exact ⟨rfl, rfl, rfl, rfl⟩)
  | movStore rs =>
    exact .of_commits (exec_movStore_commits rs s) (.store (List.mem_singleton_self _) _)
      (by cases rs <;> exact ⟨rfl, rfl, rfl, rfl⟩)
  | mviReg rd d8 =>
    exact .of_commits (exec_mviReg_commits rd d8 s) (.setReg (List.mem_singleton_self rd) _)
      (by cases rd <;> exact ⟨rfl, rfl, rfl, rfl⟩)
  | mviMem d8 =>
    exact .of_commits (exec_mviMem_commits d8 s) (.store (List.mem_singleton_self _) _) ⟨rfl, rfl, rfl, rfl⟩
  | lxi p d16 =>
    exact .of_commits (exec_lxi_commits p d16 s) (setPair_frame p d16 s) (by cases p <;> exact ⟨rfl, rfl, rfl, rfl⟩)
  | stax p =>
    exact .of_commits (exec_stax_commits p s) (.store (List.mem_singleton_self _) _)
      (by cases p <;> exact ⟨rfl, rfl, rfl, rfl⟩)
  | ldax p =>
    exact .of_commits (exec_ldax_commits p s) (.setReg (List.mem_singleton_self Reg.a) _)
      (by cases p <;> exact ⟨rfl, rfl, rfl, rfl⟩)
  | shld a16 => exact keepsFootprint_shld a16 s
  | lhld a16 => exact keepsFootprint_lhld a16 s
  | sta a16 => exact .of_commits (exec_sta_commits a16 s) (.store (List.mem_singleton_self _) _) ⟨rfl, rfl, rfl, rfl⟩
  | lda a16 =>
    exact .of_commits (exec_lda_commits a16 s) (.setReg (List.mem_singleton_self Reg.a) _) ⟨rfl, rfl, rfl, rfl⟩
  | inrReg rd =>
    exact .of_commits (exec_inrReg_commits rd s) (.setReg_setZspAc rd _ _ s)
      (by cases rd <;> exact ⟨rfl, rfl, rfl, rfl⟩)
  | inrMem => exact .of_commits (exec_inrMem_commits s) (.store_setZspAc _ _ _ s) ⟨rfl, rfl, rfl, rfl⟩
  | dcrReg rd =>
    exact .of_commits (exec_dcrReg_commits rd s) (.setReg_setZspAc rd _ _ s)
      (by cases rd <;> exact ⟨rfl, rfl, rfl, rfl⟩)
  | dcrMem => exact .of_commits (exec_dcrMem_commits s) (.store_setZspAc _ _ _ s) ⟨rfl, rfl, rfl, rfl⟩
  | inx p =>
    exact .of_commits (exec_inx_commits p s) (setPair_frame p _ s) (by cases p <;> exact ⟨rfl, rfl, rfl, rfl⟩)
  | dcx p =>
    exact .of_commits (exec_dcx_commits p s) (setPair_frame p _ s) (by cases p <;> exact ⟨rfl, rfl, rfl, rfl⟩)
  | add x =>
    exact .of_commits (exec_add_commits x s) (.setResult _ s)
      (by rcases x with (_ | _ | _ | _ | _ | _ | _) | _ <;> exact ⟨rfl, rfl, rfl, rfl⟩)
  | adc x =>
    exact .of_commits (exec_adc_commits x s) (.setResult _ s)
      (by rcases x with (_ | _ | _ | _ | _ | _ | _) | _ <;> exact ⟨rfl, rfl, rfl, rfl⟩)
  | sub x =>
    exact .of_commits (exec_sub_commits x s) (.setResult _ s)
      (by rcases x with (_ | _ | _ | _ | _ | _ | _) | _ <;> exact ⟨rfl, rfl, rfl, rfl⟩)
  | sbb x =>
    exact .of_commits (exec_sbb_commits x s) (.setResult _ s)
      (by rcases x with (_ | _ | _ | _ | _ | _ | _) | _ <;> exact ⟨rfl, rfl, rfl, rfl⟩)
  | dad p =>
    exact .of_commits (exec_dad_commits p s) (.setPair_hl_setCarry _ _ s) (by cases p <;> exact ⟨rfl, rfl, rfl, rfl⟩)
  | daa => exact .of_commits (exec_daa_commits s) (.setResult _ s) ⟨rfl, rfl, rfl, rfl⟩
  | rlc => exact .of_commits (exec_rlc_commits s) (.setRotated _ _ s) ⟨rfl, rfl, rfl, rfl⟩
  | rrc => exact .of_commits (exec_rrc_commits s) (.setRotated _ _ s) ⟨rfl, rfl, rfl, rfl⟩
  | ral => exact .of_commits (exec_ral_commits s) (.setRotated _ _ s) ⟨rfl, rfl, rfl, rfl⟩
  | rar => exact .of_commits (exec_rar_commits s) (.setRotated _ _ s) ⟨rfl, rfl, rfl, rfl⟩
  | cma =>
    exact .of_commits (exec_cma_commits s) (.setReg (List.mem_singleton_self Reg.a) _) ⟨rfl, rfl, rfl, rfl⟩
  | stc => exact .of_commits (exec_stc_commits s) (.setCarry (List.mem_singleton_self Flag.cy) _) ⟨rfl, rfl, rfl, rfl⟩
  | cmc => exact .of_commits (exec_cmc_commits s) (.setCarry (List.mem_singleton_self Flag.cy) _) ⟨rfl, rfl, rfl, rfl⟩
  | nop => exact .of_commits (exec_nop_commits s) .refl ⟨rfl, rfl, rfl, rfl⟩
  | hlt => exact fun _ => halt_frame
  | unimplemented op => exact .of_fault (exec_unimplemented op s)

/-- Settles O17, from the frame of each shape's effect: the PC advance and a fault write nothing that is spoken of. -/
theorem everyInstructionKeepsItsFootprint : Obligations.EveryInstructionKeepsItsFootprint :=
  fun i s => exec_keepsFootprint i s

end Sys2Proof.Machine
end

section
/-! PROOFS. What executing an instruction depends on (10_state.md sections 3 to 5). A relation between states that every read
of the meanings agrees under and every write keeps is kept by `exec`: one case per instruction shape, for O11, O15, O18 and
O19 alike. -/

namespace Sys2Proof.Machine

/-! ### Relations that the state operations keep -/

/-- What the meanings read, SP aside: the state with Z, S, P, SP, PC, the engine state and the count of draws erased. -/
def visible (s : State) : State := { eraseZsp s with sp := 0x0000#16, pc := 0x0000#16, run := .fetching, draws := 0 }

/-- The writes that the meanings, the faults and the PC advance are made of. -/
inductive Write
  | reg (r : Reg) (v : Byte)
  | pair (p : Pair) (v : Word)
  | store (addr : Nat) (inRange : addr ≤ Config.maxAddress) (v : Byte)
  | zspAc (v : Byte) (ac : Bool)
  | allFlags (x : Alu8)
  | carry (cy : Bool)
  | run (r : RunState)
  | advance (n : Nat)

/-- The state after a write. -/
def Write.apply (w : Write) (s : State) : State :=
  match w with
  | .reg r v => setReg r v s
  | .pair p v => setPair p v s
  | .store addr _ v => setMem (Memory.set s.mem addr v) s
  | .zspAc v ac => setZspAc v ac s
  | .allFlags x => setAllFlags x s
  | .carry cy => setCarry cy s
  | .run r => setRun r s
  | .advance n => Machine.advance n s

/-- In related states the meanings read the same values, SP aside, and the same write leads to related states. -/
structure Congruence (R : State → State → Prop) : Prop where
  visible : ∀ {s s'}, R s s' → visible s' = visible s
  write : ∀ {s s'}, R s s' → ∀ w : Write, R (w.apply s) (w.apply s')

/-- From `s` and `s'` the instruction answers next states that are related. -/
def AnswersRelated (R : State → State → Prop) (i : Instr) (s s' : State) : Prop :=
  ∃ t t', exec i s = .next t ∧ exec i s' = .next t' ∧ R t t'

namespace Congruence

variable {R : State → State → Prop} {s s' : State}

theorem mem (hR : Congruence R) (h : R s s') : s'.mem = s.mem := congrArg (fun u => u.mem) (hR.visible h)

theorem ac (hR : Congruence R) (h : R s s') : s'.flags.ac = s.flags.ac :=
  congrArg (fun u => u.flags.ac) (hR.visible h)

theorem cy (hR : Congruence R) (h : R s s') : s'.flags.cy = s.flags.cy :=
  congrArg (fun u => u.flags.cy) (hR.visible h)

theorem subAcRule (hR : Congruence R) (h : R s s') : s'.subAcRule = s.subAcRule :=
  congrArg (fun u => u.subAcRule) (hR.visible h)

theorem getReg (hR : Congruence R) (h : R s s') (r : Reg) : getReg r s' = getReg r s := by
  have hvisible := congrArg (Machine.getReg r) (hR.visible h)
  cases r <;> exact hvisible

theorem a (hR : Congruence R) (h : R s s') : s'.a = s.a := hR.getReg h .a

/-- The views BC, DE and HL are read through their registers; SP only where it is known to agree. -/
theorem getPair (hR : Congruence R) (h : R s s') {p : Pair} (hsp : p = .sp → s'.sp = s.sp) :
    getPair p s' = getPair p s := by
  cases p with
  | bc => exact congrArg₂ joinBytes (hR.getReg h .b) (hR.getReg h .c)
  | de => exact congrArg₂ joinBytes (hR.getReg h .d) (hR.getReg h .e)
  | hl => exact congrArg₂ joinBytes (hR.getReg h .h) (hR.getReg h .l)
  | sp => exact hsp rfl

theorem hlAddr (hR : Congruence R) (h : R s s') : hlAddr s' = hlAddr s :=
  congrArg BitVec.toNat (hR.getPair (p := .hl) h nofun)

theorem operand (hR : Congruence R) (h : R s s') (x : Src) : operand x s' = operand x s := by
  cases x with
  | reg r => exact hR.getReg h r
  | m => simp only [Machine.operand, hR.mem h, hR.hlAddr h]

theorem setReg (hR : Congruence R) (h : R s s') (r : Reg) (v : Byte) : R (setReg r v s) (setReg r v s') :=
  hR.write h (.reg r v)

theorem setPair (hR : Congruence R) (h : R s s') (p : Pair) (v : Word) : R (setPair p v s) (setPair p v s') :=
  hR.write h (.pair p v)

theorem store (hR : Congruence R) (h : R s s') {addr : Nat} (ha : addr ≤ Config.maxAddress) (v : Byte) :
    R (setMem (Memory.set s.mem addr v) s) (setMem (Memory.set s'.mem addr v) s') := hR.write h (.store addr ha v)

theorem setZspAc (hR : Congruence R) (h : R s s') (v : Byte) (ac : Bool) : R (setZspAc v ac s) (setZspAc v ac s') :=
  hR.write h (.zspAc v ac)

theorem setResult (hR : Congruence R) (h : R s s') (x : Alu8) : R (setResult x s) (setResult x s') :=
  hR.write (hR.setReg h .a x.r) (.allFlags x)

theorem setCarry (hR : Congruence R) (h : R s s') (cy : Bool) : R (setCarry cy s) (setCarry cy s') :=
  hR.write h (.carry cy)

theorem setRotated (hR : Congruence R) (h : R s s') (r : Byte) (c : Bool) : R (setRotated r c s) (setRotated r c s') :=
  hR.setCarry (hR.setReg h .a r) c

/-- Related effects that both commit, the PC advance after them. -/
theorem of_commits (hR : Congruence R) {n : Nat} {i : Instr} {effect : State → State}
    (hexec : ∀ s, exec i s = finish n s (.ok (effect s))) (heffect : R (effect s) (effect s')) :
    AnswersRelated R i s s' :=
  ⟨_, _, hexec s, hexec s', hR.write heffect (.advance n)⟩

theorem of_fault (hR : Congruence R) (h : R s s') {i : Instr} {f : HaltReason}
    (hexec : ∀ s, exec i s = .next (Machine.setRun (.halted f) s)) : AnswersRelated R i s s' :=
  ⟨_, _, hexec s, hexec s', hR.write h (.run _)⟩

theorem shld (hR : Congruence R) (h : R s s') (a16 : Word) : AnswersRelated R (.shld a16) s s' := by
  rcases word_lt_ffff_or_eq a16 with hlt | rfl
  · refine hR.of_commits (exec_shld_commits hlt) ?_
    have hl : s'.l = s.l := hR.getReg h .l
    have hh : s'.h = s.h := hR.getReg h .h
    rw [hl, hh]
    exact hR.store (hR.store h (word_le_maxAddress a16) s.l) hlt s.h
  · exact hR.of_fault h (exec_shld_at_top rfl)

theorem lhld (hR : Congruence R) (h : R s s') (a16 : Word) : AnswersRelated R (.lhld a16) s s' := by
  rcases word_lt_ffff_or_eq a16 with hlt | rfl
  · refine hR.of_commits (exec_lhld_commits hlt) ?_
    rw [hR.mem h]
    exact hR.setReg (hR.setReg h .h _) .l _
  · exact hR.of_fault h (exec_lhld_at_top rfl)

/-- Every instruction but HLT and the unimplemented opcodes keeps such a relation, if SP agrees where it reads SP. -/
theorem exec (hR : Congruence R) (h : R s s') (i : Instr) (hhlt : i ≠ .hlt) (hunimpl : ∀ op, i ≠ .unimplemented op)
    (hsp : readsSp i = true → s'.sp = s.sp) : AnswersRelated R i s s' := by
  induction i using Instr.byShape with
  | movReg rd rs =>
    exact hR.of_commits (exec_movReg_commits rd rs) (by rw [hR.getReg h]; exact hR.setReg h rd _)
  | movLoad rd => exact hR.of_commits (exec_movLoad_commits rd) (by rw [hR.operand h]; exact hR.setReg h rd _)
  | movStore rs =>
    exact hR.of_commits (exec_movStore_commits rs)
      (by rw [hR.getReg h, hR.hlAddr h]; exact hR.store h (word_le_maxAddress _) _)
  | mviReg rd d8 => exact hR.of_commits (exec_mviReg_commits rd d8) (hR.setReg h rd d8)
  | mviMem d8 =>
    exact hR.of_commits (exec_mviMem_commits d8) (by rw [hR.hlAddr h]; exact hR.store h (word_le_maxAddress _) d8)
  | lxi p d16 => exact hR.of_commits (exec_lxi_commits p d16) (hR.setPair h p d16)
  | stax p =>
    exact hR.of_commits (exec_stax_commits p)
      (by rw [hR.a h, hR.getPair h (by cases p <;> nofun)]; exact hR.store h (word_le_maxAddress _) _)
  | ldax p =>
    exact hR.of_commits (exec_ldax_commits p)
      (by rw [hR.mem h, hR.getPair h (by cases p <;> nofun)]; exact hR.setReg h .a _)
  | shld a16 => exact hR.shld h a16
  | lhld a16 => exact hR.lhld h a16
  | sta a16 =>
    exact hR.of_commits (exec_sta_commits a16) (by rw [hR.a h]; exact hR.store h (word_le_maxAddress _) _)
  | lda a16 => exact hR.of_commits (exec_lda_commits a16) (by rw [hR.mem h]; exact hR.setReg h .a _)
  | inrReg rd =>
    exact hR.of_commits (exec_inrReg_commits rd)
      (by rw [hR.getReg h]; exact hR.setZspAc (hR.setReg h rd _) _ _)
  | inrMem =>
    exact hR.of_commits exec_inrMem_commits
      (by rw [hR.operand h, hR.hlAddr h]; exact hR.setZspAc (hR.store h (word_le_maxAddress _) _) _ _)
  | dcrReg rd =>
    exact hR.of_commits (exec_dcrReg_commits rd)
      (by rw [hR.getReg h, hR.subAcRule h]; exact hR.setZspAc (hR.setReg h rd _) _ _)
  | dcrMem =>
    exact hR.of_commits exec_dcrMem_commits
      (by
        rw [hR.operand h, hR.hlAddr h, hR.subAcRule h]
        exact hR.setZspAc (hR.store h (word_le_maxAddress _) _) _ _)
  | inx p =>
    exact hR.of_commits (exec_inx_commits p)
      (by rw [hR.getPair h (by rintro rfl; exact hsp rfl)]; exact hR.setPair h p _)
  | dcx p =>
    exact hR.of_commits (exec_dcx_commits p)
      (by rw [hR.getPair h (by rintro rfl; exact hsp rfl)]; exact hR.setPair h p _)
  | add x => exact hR.of_commits (exec_add_commits x) (by rw [hR.a h, hR.operand h]; exact hR.setResult h _)
  | adc x =>
    exact hR.of_commits (exec_adc_commits x) (by rw [hR.a h, hR.operand h, hR.cy h]; exact hR.setResult h _)
  | sub x =>
    exact hR.of_commits (exec_sub_commits x) (by rw [hR.a h, hR.operand h, hR.subAcRule h]; exact hR.setResult h _)
  | sbb x =>
    exact hR.of_commits (exec_sbb_commits x)
      (by rw [hR.a h, hR.operand h, hR.subAcRule h, hR.cy h]; exact hR.setResult h _)
  | dad p =>
    exact hR.of_commits (exec_dad_commits p)
      (by
        rw [hR.getPair h (p := .hl) nofun, hR.getPair h (p := p) (by rintro rfl; exact hsp rfl)]
        exact hR.setCarry (hR.setPair h .hl _) _)
  | daa => exact hR.of_commits exec_daa_commits (by rw [hR.a h, hR.ac h, hR.cy h]; exact hR.setResult h _)
  | rlc => exact hR.of_commits exec_rlc_commits (by rw [hR.a h]; exact hR.setRotated h _ _)
  | rrc => exact hR.of_commits exec_rrc_commits (by rw [hR.a h]; exact hR.setRotated h _ _)
  | ral => exact hR.of_commits exec_ral_commits (by rw [hR.a h, hR.cy h]; exact hR.setRotated h _ _)
  | rar => exact hR.of_commits exec_rar_commits (by rw [hR.a h, hR.cy h]; exact hR.setRotated h _ _)
  | cma => exact hR.of_commits exec_cma_commits (by rw [hR.a h]; exact hR.setReg h .a _)
  | stc => exact hR.of_commits exec_stc_commits (hR.setCarry h true)
  | cmc => exact hR.of_commits exec_cmc_commits (by rw [hR.cy h]; exact hR.setCarry h _)
  | nop => exact hR.of_commits (effect := id) exec_nop_commits h
  | hlt => exact absurd rfl hhlt
  | unimplemented op => exact absurd rfl (hunimpl op)

end Congruence

/-! ### Agreement but for an erased part -/

/-- Agreement but for what `erase` erases, where the meanings do not read it and no write brings it back. -/
theorem Congruence.of_erase {erase : State → State} (hread : ∀ s, Machine.visible (erase s) = Machine.visible s)
    (hwrite : ∀ (w : Write) (s : State), erase (w.apply (erase s)) = erase (w.apply s)) :
    Congruence (fun s s' => erase s = erase s') where
  visible {s s'} h := by rw [← hread s', ← h, hread]
  write {s s'} h w := by rw [← hwrite w s, h, hwrite]

/-- Whether the PC advance overflows depends on PC alone, so it keeps an agreement that erases no PC. -/
theorem erase_advance {erase : State → State} (hpc : ∀ s, (erase s).pc = s.pc)
    (hsetPc : ∀ next s, erase (setPc next (erase s)) = erase (setPc next s))
    (hsetRun : ∀ r s, erase (setRun r (erase s)) = erase (setRun r s)) (n : Nat) (s : State) :
    erase (advance n (erase s)) = erase (advance n s) := by
  rcases advance_cases n s with ⟨hfits, h⟩ | ⟨hover, h⟩
  · rw [h, advance_of_fits (by rwa [hpc]), hpc, hsetPc]
  · rw [h, advance_of_overflow (by rwa [hpc]), hpc, hsetRun]

theorem congruence_eraseZsp : Congruence (fun s s' => eraseZsp s = eraseZsp s') := by
  refine .of_erase (fun _ => rfl) fun w s => ?_
  cases w with
  | reg r v => cases r <;> rfl
  | pair p v => cases p <;> rfl
  | advance n => exact erase_advance (erase := eraseZsp) (fun _ => rfl) (fun _ _ => rfl) (fun _ _ => rfl) n s
  | _ => rfl

/-- The state with SP erased. -/
def eraseSp (s : State) : State := { s with sp := 0x0000#16 }

theorem congruence_eraseSp : Congruence (fun s s' => eraseSp s = eraseSp s') := by
  refine .of_erase (fun _ => rfl) fun w s => ?_
  cases w with
  | reg r v => cases r <;> rfl
  | pair p v => cases p <;> rfl
  | advance n => exact erase_advance (erase := eraseSp) (fun _ => rfl) (fun _ _ => rfl) (fun _ _ => rfl) n s
  | _ => rfl

theorem erasePcRun_advance (n : Nat) (s : State) : erasePcRun (advance n s) = erasePcRun s := by
  rcases advance_cases n s with ⟨-, h⟩ | ⟨-, h⟩ <;> rw [h] <;> rfl

theorem congruence_erasePcRun : Congruence (fun s s' => erasePcRun s = erasePcRun s') := by
  refine .of_erase (fun _ => rfl) fun w s => ?_
  cases w with
  | reg r v => cases r <;> rfl
  | pair p v => cases p <;> rfl
  | advance n => exact (erasePcRun_advance n (erasePcRun s)).trans (erasePcRun_advance n s).symm
  | _ => rfl

/-- Equality of states with a canonical memory: every store is inside the address space. -/
theorem congruence_wf : Congruence (fun s s' => s = s' ∧ Memory.wf s.mem) where
  visible h := by rw [h.1]
  write {s s'} h w := by
    obtain ⟨rfl, hwf⟩ := h
    refine ⟨rfl, ?_⟩
    cases w with
    | reg r v => simpa [Write.apply] using hwf
    | pair p v => simpa [Write.apply] using hwf
    | store addr inRange v => exact Memory.wf_set hwf inRange v
    | advance n =>
      rcases advance_cases n s with ⟨-, h⟩ | ⟨-, h⟩ <;> rw [Write.apply, h] <;> exact hwf
    | _ => exact hwf

/-! ### HLT and the unimplemented opcodes -/

theorem hlt_or_unimplemented_or_neither (i : Instr) :
    i = .hlt ∨ (∃ op, i = .unimplemented op) ∨ (i ≠ .hlt ∧ ∀ op, i ≠ .unimplemented op) := by
  cases i with
  | hlt => exact .inl rfl
  | unimplemented op => exact .inr (.inl ⟨op, rfl⟩)
  | _ => exact .inr (.inr ⟨nofun, nofun⟩)

/-- The state HLT leaves, from the PC and the count of draws it gives. -/
def haltedAt (pc : Word) (draws : Nat) (s : State) : State := { s with run := .halted .hlt, pc := pc, draws := draws }

/-- HLT depends on PC and the count of draws alone. -/
theorem halt_eq (s : State) :
    ∃ pc draws, ∀ u : State, u.pc = s.pc → u.draws = s.draws → halt u = .next (haltedAt pc draws u) := by
  rcases Nat.lt_or_ge 0xFFFF (s.pc.toNat + 1) with htop | hfits
  · refine ⟨Config.pcAfterTopHlt s.draws, s.draws + 1, fun u hpc hdraws => ?_⟩
    rw [halt_at_top (by rwa [hpc]), ← hdraws]
    rfl
  · refine ⟨BitVec.ofNat 16 (s.pc.toNat + 1), s.draws, fun u hpc hdraws => ?_⟩
    rw [halt_of_fits (by rwa [hpc]), hpc, ← hdraws]
    rfl

/-! ### The obligations -/

/-- Settles O18: Z, S and P are no part of what the meanings read, and no write brings them back. -/
theorem zeroSignParityAreReadByNoInstruction : Obligations.ZeroSignParityAreReadByNoInstruction := by
  intro i s s' h
  have hpc : s'.pc = s.pc := (congrArg State.pc h).symm
  have hsp : s'.sp = s.sp := (congrArg State.sp h).symm
  have hdraws : s'.draws = s.draws := (congrArg State.draws h).symm
  rcases hlt_or_unimplemented_or_neither i with rfl | ⟨op, rfl⟩ | ⟨hhlt, hunimpl⟩
  · obtain ⟨pc, draws, hhalt⟩ := halt_eq s
    exact ⟨_, _, hhalt s rfl rfl, hhalt s' hpc hdraws, congrArg (haltedAt pc draws) h⟩
  · refine ⟨_, _, exec_unimplemented op s, exec_unimplemented op s', ?_⟩
    rw [hpc]
    exact congruence_eraseZsp.write h (.run _)
  · exact congruence_eraseZsp.exec h i hhlt hunimpl fun _ => hsp

/-- Settles O11: PC is read by the PC advance alone, which writes only PC and the engine state. -/
theorem pcOverflowKeepsTheEffects : Obligations.PcOverflowKeepsTheEffects := by
  intro i s pc' hhlt hunimpl
  refine ⟨congruence_erasePcRun.exec (s := s) (s' := { s with pc := pc' }) rfl i hhlt hunimpl fun _ => rfl,
    fun hover hshld hlhld => ?_⟩
  rcases exec_cases i s with h | ⟨h | h, -⟩ | h | ⟨op, h⟩
  · exact h.overflows hover
  · exact absurd h hshld
  · exact absurd h hlhld
  · exact absurd h hhlt
  · exact absurd h (hunimpl op)

/-- LXI SP is the one instruction that writes SP without reading it. -/
theorem eq_lxi_sp_of_writesSp {i : Instr} (hwrites : writesSp i = true) (hreads : readsSp i = false) :
    ∃ d16, i = .lxi .sp d16 := by
  cases i with
  | lxiSP d16 => exact ⟨d16, rfl⟩
  | inxSP => cases hreads
  | dcxSP => cases hreads
  | _ => cases hwrites

/-- An instruction that neither reads nor writes SP carries another SP through. -/
theorem exec_with_sp {i : Instr} (hreads : readsSp i = false) (hwrites : writesSp i = false) (s : State) (v : Word)
    (hhlt : i ≠ .hlt) (hunimpl : ∀ op, i ≠ .unimplemented op) :
    ∃ t, exec i s = .next t ∧ exec i { s with sp := v } = .next { t with sp := v } := by
  obtain ⟨t, t', ht, ht', hrel⟩ := congruence_eraseSp.exec (s := s) (s' := { s with sp := v }) rfl i hhlt hunimpl
    fun h => by rw [hreads] at h; cases h
  obtain ⟨-, hsp, -⟩ := exec_keepsFootprint i { s with sp := v } t' ht'
  have hv : t'.sp = v := hsp hwrites
  have heq : { t with sp := v } = { t' with sp := v } := congrArg (fun u : State => { u with sp := v }) hrel
  exact ⟨t, ht, by rw [ht', heq, ← hv]⟩

/-- Settles O19: LXI SP overwrites SP; every other such instruction carries it through. -/
theorem stackPointerIsReadOnlyByItsOwnForms : Obligations.StackPointerIsReadOnlyByItsOwnForms := by
  intro i s v hreads
  cases hwrites : writesSp i with
  | true =>
    obtain ⟨d16, rfl⟩ := eq_lxi_sp_of_writesSp hwrites hreads
    exact ⟨_, exec_lxi_commits .sp d16 s, exec_lxi_commits .sp d16 { s with sp := v }⟩
  | false =>
    rcases hlt_or_unimplemented_or_neither i with rfl | ⟨op, rfl⟩ | ⟨hhlt, hunimpl⟩
    · obtain ⟨pc, draws, hhalt⟩ := halt_eq s
      exact ⟨_, hhalt s rfl rfl, hhalt _ rfl rfl⟩
    · exact ⟨_, exec_unimplemented op s, exec_unimplemented op { s with sp := v }⟩
    · exact exec_with_sp hreads hwrites s v hhlt hunimpl

end Sys2Proof.Machine
end

section
/-! PROOFS. Progress and the run: every step from Fetching moves PC forward or halts, so a run halts within as many steps as
there are addresses (41_engine_loop.md sections 2 and 3). -/

namespace Sys2Proof.Machine

theorem operandLength_le_two (i : Instr) : operandLength i ≤ 2 := by
  cases i <;> simp [operandLength]

/-- From `s` to `t` the engine made progress: PC moved forward by 1 to 3, or the engine is Halted. -/
def Progressed (s t : State) : Prop :=
  (t.run = .fetching ∧ s.pc.toNat + 1 ≤ t.pc.toNat ∧ t.pc.toNat ≤ s.pc.toNat + 3) ∨ ∃ reason, t.run = .halted reason

/-- An instruction run from Fetching answers a next state and makes progress. -/
theorem exec_progresses (i : Instr) {s : State} (hrun : s.run = .fetching) :
    ∃ t, exec i s = .next t ∧ Progressed s t := by
  rcases exec_cases i s with h | ⟨-, h⟩ | rfl | ⟨op, rfl⟩
  · rcases Nat.lt_or_ge 0xFFFF (s.pc.toNat + 1 + operandLength i) with hover | hfits
    · obtain ⟨t, hexec, -, hhalted⟩ := h.overflows hover
      exact ⟨t, hexec, .inr ⟨_, hhalted⟩⟩
    · obtain ⟨t, hexec, hrun', hpc⟩ := h.completes hfits
      have hlen := operandLength_le_two i
      exact ⟨t, hexec, .inl ⟨hrun'.trans hrun, by omega, by omega⟩⟩
  · exact ⟨_, h, .inr ⟨_, rfl⟩⟩
  · obtain ⟨pc, draws, hhalt⟩ := halt_eq s
    exact ⟨_, hhalt s rfl rfl, .inr ⟨_, rfl⟩⟩
  · exact ⟨_, exec_unimplemented op s, .inr ⟨_, rfl⟩⟩

/-- Settles O9: the fetch faults, which halts the engine, or its instruction makes progress. -/
theorem fetchingEngineAlwaysSteps : Obligations.FetchingEngineAlwaysSteps := by
  intro s hrun
  cases hfetch : fetch s with
  | error f => exact ⟨setRun (.halted f) s, by rw [step_of_fetching hrun, hfetch], .inr ⟨f, rfl⟩⟩
  | ok i =>
    rw [step_of_fetch hrun hfetch]
    exact exec_progresses i hrun

theorem runFor_of_halted {s : State} {reason : HaltReason} (h : s.run = .halted reason) (budget : Nat) :
    runFor budget s = s := by
  cases budget with
  | zero => rfl
  | succ k => rw [runFor, step_of_halted h]

theorem runFor_succ {s t : State} (h : step s = .next t) (k : Nat) : runFor (k + 1) s = runFor k t := by
  rw [runFor, h]

/-- A budget that covers the addresses from PC on ends in Halted: each step that stays in Fetching uses up one of them. -/
theorem runFor_halts (budget : Nat) {s : State} (hrun : s.run = .fetching) (hbudget : 0x10000 ≤ s.pc.toNat + budget) :
    ∃ reason, (runFor budget s).run = .halted reason := by
  induction budget generalizing s with
  | zero =>
    have hpc := s.pc.isLt
    omega
  | succ k ih =>
    obtain ⟨t, hstep, ⟨hrun', hforward, -⟩ | ⟨reason, hhalted⟩⟩ := fetchingEngineAlwaysSteps s hrun
    · rw [runFor_succ hstep]
      exact ih hrun' (by omega)
    · rw [runFor_succ hstep, runFor_of_halted hhalted]
      exact ⟨reason, hhalted⟩

/-- Settles O14: 65536 steps cover the whole address space. -/
theorem everyRunReachesHalted : Obligations.EveryRunReachesHalted :=
  fun s hrun => runFor_halts 65536 hrun (Nat.le_add_left 65536 s.pc.toNat)

end Sys2Proof.Machine
end

section
/-! PROOFS. The invariant: it holds when a session is created, and every step keeps it (10_state.md sections 6, 8 and 9). -/

namespace Sys2Proof.Machine

/-- An instruction keeps memory canonical. -/
theorem exec_keeps_wf {i : Instr} {s t : State} (hwf : Memory.wf s.mem) (hexec : exec i s = .next t) :
    Memory.wf t.mem := by
  rcases hlt_or_unimplemented_or_neither i with rfl | ⟨op, rfl⟩ | ⟨hhlt, hunimpl⟩
  · obtain ⟨pc, draws, hhalt⟩ := halt_eq s
    cases hexec.symm.trans (hhalt s rfl rfl)
    exact hwf
  · cases hexec
    exact hwf
  · obtain ⟨u, u', hu, hu', rfl, hwf'⟩ := congruence_wf.exec ⟨rfl, hwf⟩ i hhlt hunimpl fun _ => rfl
    cases hexec.symm.trans hu
    exact hwf'

theorem step_keeps_wf {s t : State} (hwf : Memory.wf s.mem) (hstep : step s = .next t) : Memory.wf t.mem := by
  obtain ⟨-, rfl | ⟨i, -, hexec⟩⟩ := step_next_cases hstep
  · exact hwf
  · exact exec_keeps_wf hwf hexec

/-- Settles O15: memory stays canonical, and the ways into Halted (O8) leave true records; at an unimplemented opcode
nothing but the record changes (O12). -/
theorem everyStepKeepsTheInvariant : Obligations.EveryStepKeepsTheInvariant := by
  rintro s t ⟨hwf, -, -⟩ hstep
  obtain ⟨hrun, -⟩ := step_next_cases hstep
  refine ⟨step_keeps_wf hwf hstep, fun addr hfault => ?_, fun pc op hfault => ?_⟩
  · rcases haltedEngineHasNoStep.2 s t _ hstep hfault with ⟨-, h⟩ | h | ⟨_, -, -, h⟩ <;> cases h
    rfl
  · rcases haltedEngineHasNoStep.2 s t _ hstep hfault with ⟨-, h⟩ | h | ⟨_, hread, hop, h⟩ <;> cases h
    cases hstep.symm.trans ((unimplementedOpcodeHalts s op).2 hrun hread hop)
    exact ⟨rfl, hop, hread⟩

/-- A canonical memory and an engine in Fetching, which has no fault record, meet the invariant. -/
theorem Inv.of_fetching {s : State} (hwf : Memory.wf s.mem) (hrun : s.run = .fetching) : Inv s :=
  ⟨hwf, fun _ h => (nomatch hrun.symm.trans h), fun _ _ h => (nomatch hrun.symm.trans h)⟩

theorem inv_create (init : InitRegs) (rule : SubAcRule) : Inv (State.create init rule) :=
  .of_fetching (State.wf_create init rule) rfl

/-- Settles O16: a session just created is Fetching and no cell of it is listed. -/
theorem createdSessionMeetsTheInvariant : Obligations.CreatedSessionMeetsTheInvariant :=
  ⟨inv_create Config.zeroInit .complementAdd, inv_create⟩

/-- A load that succeeds stayed within its bound. -/
theorem load_eq_loaded {limit : LoadLimit} {bytes : List Byte} {start : Word} {s t : State}
    (h : load limit bytes start s = .loaded t) :
    start.toNat + bytes.length ≤ Config.loadBound limit ∧
      t = setPc start (setMem (storeBytes s.mem start.toNat bytes) s) := by
  rcases Nat.lt_or_ge (Config.loadBound limit) (start.toNat + bytes.length) with hpast | hfits
  · rw [load_of_gt hpast] at h
    cases h
  · rw [load_of_le hfits] at h
    cases h
    exact ⟨hfits, rfl⟩

/-- In a created session a stored program is all of memory: the cells after it are as blank as its missing bytes. -/
theorem get_storeBytes_create (base a : Nat) (bytes : List Byte) :
    Memory.get (storeBytes [] base bytes) a =
      if base ≤ a then bytes.getD (a - base) Config.blankByte else Config.blankByte := by
  rw [Memory.get_storeBytes]
  by_cases hbase : base ≤ a
  · by_cases hend : a < base + bytes.length
    · rw [if_pos ⟨hbase, hend⟩, if_pos hbase]
    · rw [if_neg (fun h => hend h.2), if_pos hbase, List.getD_eq_default _ _ (by omega)]
      rfl
  · rw [if_neg (fun h => hbase h.1), if_neg hbase]
    rfl

/-- Settles O21: the loaded state is the created one with the program stored and PC set. -/
theorem loadedSessionStartsAsSpecified : Obligations.LoadedSessionStartsAsSpecified := by
  intro init rule limit bytes start t hload
  obtain ⟨hfits, rfl⟩ := load_eq_loaded hload
  have hwf : Memory.wf (storeBytes [] start.toNat bytes) :=
    Memory.wf_storeBytes Memory.wf_nil (hfits.trans (loadBound_le limit))
  refine ⟨fun addr haddr => ?_, rfl, rfl, rfl, rfl, rfl, rfl, rfl, rfl, rfl, rfl, rfl, rfl, .of_fetching hwf rfl⟩
  rw [memRead_setPc, memRead_of_le haddr]
  exact congrArg _ (get_storeBytes_create start.toNat addr bytes)

end Sys2Proof.Machine
end

section
/-! PROOFS. How a run ended, as the exit code says it (60_exceptions.md R316). -/

namespace Sys2Proof.Machine

theorem exitCode_of_run (s : State) :
    exitCode s = match s.run with
      | .fetching => none
      | .halted .hlt => some 0
      | .halted _ => some Config.exitFailureCode := by
  rcases hrun : s.run with _ | (_ | _ | _) <;> simp only [exitCode, runEnd, hrun]

theorem exitFailureCode_ne_zero : Config.exitFailureCode ≠ 0 := Nat.succ_ne_zero _

/-- Settles O23, by the four values of the engine state. -/
theorem exitCodeIsZeroOnlyOnNormalHalt : Obligations.ExitCodeIsZeroOnlyOnNormalHalt := by
  refine ⟨fun s => ?_, fun _ _ _ => ⟨_, rfl, exitFailureCode_ne_zero⟩⟩
  rw [exitCode_of_run]
  rcases s.run with _ | (_ | _ | _) <;> simp [exitFailureCode_ne_zero]

end Sys2Proof.Machine
end

section
/-! PROOFS. A canonical memory is determined by its reads (10_state.md section 8). -/

namespace Sys2Proof.Machine

/-- In a canonical memory a cell is listed exactly when its address reads as it and not as blank. -/
theorem Memory.mem_iff_get {m : Memory} (h : Memory.wf m) (cell : Host.Cell) :
    cell ∈ m ↔ Memory.get m cell.1 = cell.2 ∧ cell.2 ≠ Config.blankByte := by
  induction m with
  | nil => simp [Memory.get, eq_comm]
  | cons head m ih =>
    obtain ⟨hsorted, hcells⟩ := h
    obtain ⟨hhead, htail⟩ := List.pairwise_cons.mp hsorted
    have ih := ih ⟨htail, fun c hc => hcells c (List.mem_cons_of_mem _ hc)⟩
    rw [List.mem_cons, Memory.get_cons, ih]
    by_cases haddr : head.1 = cell.1
    · have hnot : ∀ c ∈ m, c.1 ≠ cell.1 := fun c hc => by have := hhead c hc; omega
      rw [if_pos haddr, Memory.get_of_not_listed hnot]
      have hne := (hcells head List.mem_cons_self).2
      constructor
      · rintro (rfl | ⟨hblank, hcell⟩)
        · exact ⟨rfl, hne⟩
        · exact absurd hblank.symm hcell
      · rintro ⟨hval, -⟩
        exact .inl (Prod.ext haddr hval).symm
    · rw [if_neg haddr]
      constructor
      · rintro (rfl | h)
        · exact absurd rfl haddr
        · exact h
      · exact .inr

/-- Settles O25: the two lists have the same cells, and a strictly rising list is determined by its cells. -/
theorem canonicalMemoryIsDeterminedByItsReads : Obligations.CanonicalMemoryIsDeterminedByItsReads := by
  intro m m' hm hm' hreads
  have hcells : ∀ cell, cell ∈ m ↔ cell ∈ m' := fun cell => by
    rw [Memory.mem_iff_get hm, Memory.mem_iff_get hm', hreads]
  have hperm : m.Perm m' := (List.perm_ext_iff_of_nodup (hm.1.imp fun h heq => by simp [heq] at h)
    (hm'.1.imp fun h heq => by simp [heq] at h)).mpr hcells
  exact hperm.eq_of_pairwise (fun a b _ _ hab hba => absurd hab hba.asymm) hm.1 hm'.1

end Sys2Proof.Machine
end

section
/-! PROOFS. The two SUB_AC_RULE settings (40_flag_policy.md R124; 92_eei_decisions.md D4). -/

namespace Sys2Proof.Machine

/-- Settles O27: both settings are said through the nibble borrow. -/
theorem subtractionAuxCarryRulesAreComplements : Obligations.SubtractionAuxCarryRulesAreComplements :=
  fun a b bin => ⟨by rw [sub8_ac_complementAdd, sub8_ac_borrow], rfl, rfl⟩

end Sys2Proof.Machine
end

section
/-! PROOFS. DCR of a register and of the cell at HL, and INR and DCR as inverses (44_inc_dec.md R212, R213;
95_test_vectors.md part 1). -/

namespace Sys2Proof.Machine

theorem encode_dcr (x : Src) : encode (.dcr x) = [0b00000101#8 ||| x.code <<< 3] := by
  rcases x with r | _
  · cases r <;> rfl
  · rfl

/-- AC of a decrement under both settings (40_flag_policy.md R125). -/
theorem dec8_ac (rule : SubAcRule) (v : Byte) :
    (dec8 rule v).2 = (match rule with
      | .complementAdd => decide (v.toNat % 16 ≠ 0)
      | .borrow => decide (v.toNat % 16 = 0)) := by
  cases rule with
  | complementAdd => exact dec8_ac_complementAdd v
  | borrow => exact dec8_ac_borrow v

/-- Settles O43: the effect writes `dec8` of the register, with its flags. -/
theorem dcrDecrementsTheRegister : Obligations.DcrDecrementsTheRegister := by
  intro rd
  refine ⟨encode_dcr (.reg rd), .of_finish (exec_dcrReg_commits rd) (fun _ => setReg_pc _ _ _), fun s hfits => ?_⟩
  obtain ⟨t, hexec, hcompleted, hreg, hzsp, hac, hframe⟩ :=
    completed_of_finish_setReg_setZspAc (exec_dcrReg_commits rd s) hfits
  rw [← hreg] at hzsp
  exact ⟨t, hexec, hcompleted, by rw [hreg, dec8_r], hzsp, hac.trans (dec8_ac _ _), hframe⟩

/-- Settles O44: the effect writes `dec8` of the byte at HL back to its cell, with its flags. -/
theorem dcrMemoryDecrementsTheCell : Obligations.DcrMemoryDecrementsTheCell := by
  refine ⟨encode_dcr .m, .of_finish exec_dcrMem_commits (fun _ => setZspAc_pc _ _ _), fun s hfits => ?_⟩
  obtain ⟨t, hexec, hcompleted, hcell, hzsp, hac, hframe⟩ :=
    completed_of_finish_store_setZspAc (exec_dcrMem_commits s) hfits
  exact ⟨t, hexec, hcompleted, _, hcell, dec8_r _ _, hzsp, hac.trans (dec8_ac _ _), hframe⟩

/-- The instruction, one byte long, adds `k` modulo 256 to a register, sets Z from the result and keeps CY. -/
def AddsToReg (rd : Reg) (k : Nat) (i : Instr) : Prop :=
  ∀ s : State, Fits 0 s → ∃ t, exec i s = .next t ∧ Completed 0 s t ∧
    (getReg rd t).toNat = ((getReg rd s).toNat + k) % 256 ∧ t.flags.z = decide ((getReg rd t).toNat = 0) ∧
    t.flags.cy = s.flags.cy

theorem addsToReg_inr (rd : Reg) : AddsToReg rd 1 (.inr (.reg rd)) := by
  intro s hfits
  obtain ⟨-, -, hinr⟩ := inrIncrementsTheRegister rd
  obtain ⟨t, hexec, hcompleted, hreg, ⟨hz, -, -⟩, -, -, -, hflags, -⟩ := hinr s hfits
  exact ⟨t, hexec, hcompleted, hreg, hz, hflags .cy (by decide)⟩

theorem addsToReg_dcr (rd : Reg) : AddsToReg rd 255 (.dcr (.reg rd)) := by
  intro s hfits
  obtain ⟨-, -, hdcr⟩ := dcrDecrementsTheRegister rd
  obtain ⟨t, hexec, hcompleted, hreg, ⟨hz, -, -⟩, -, -, -, hflags, -⟩ := hdcr s hfits
  exact ⟨t, hexec, hcompleted, hreg, hz, hflags .cy (by decide)⟩

/-- Two such instructions that add 256 in all restore the register. -/
theorem AddsToReg.restores {rd : Reg} {k k' : Nat} {i i' : Instr} (h : AddsToReg rd k i) (h' : AddsToReg rd k' i')
    (hk : k + k' = 256) {s : State} (hroom : s.pc.toNat + 2 ≤ 0xFFFF) :
    ∃ t u, exec i s = .next t ∧ exec i' t = .next u ∧ getReg rd u = getReg rd s ∧
      u.flags.z = decide ((getReg rd s).toNat = 0) ∧ u.flags.cy = s.flags.cy := by
  obtain ⟨t, ht, ⟨-, hpc⟩, hreg, -, hcy⟩ := h s (by unfold Fits; omega)
  obtain ⟨u, hu, -, hreg', hz', hcy'⟩ := h' t (by unfold Fits; omega)
  have hrestored : getReg rd u = getReg rd s := by
    have hlt := (getReg rd s).isLt
    exact BitVec.eq_of_toNat_eq (by omega)
  exact ⟨t, u, ht, hu, hrestored, hrestored ▸ hz', hcy'.trans hcy⟩

/-- Settles O28: INR adds 1 and DCR adds 255 modulo 256, in either order. -/
theorem incrementThenDecrementRestores : Obligations.IncrementThenDecrementRestores := fun rd _ hroom =>
  ⟨(addsToReg_inr rd).restores (addsToReg_dcr rd) rfl hroom, (addsToReg_dcr rd).restores (addsToReg_inr rd) rfl hroom⟩

end Sys2Proof.Machine
end

section
/-! PROOFS. SUB and SBB of a register and of the cell at HL (45_arithmetic.md R234 to R237). -/

namespace Sys2Proof.Machine

theorem encode_sub (x : Src) : encode (.sub x) = [0b10010000#8 ||| x.code] := by
  rcases x with r | _
  · cases r <;> rfl
  · rfl

theorem encode_sbb (x : Src) : encode (.sbb x) = [0b10011000#8 ||| x.code] := by
  rcases x with r | _
  · cases r <;> rfl
  · rfl

/-- AC of a subtraction under both settings: the nibble borrow, or its complement (40_flag_policy.md R124). -/
theorem sub8_ac (rule : SubAcRule) (a b : Byte) (bin : Bool) :
    (sub8 rule a b bin).ac = (match rule with
      | .complementAdd => !decide (a.toNat % 16 < b.toNat % 16 + bin.toNat)
      | .borrow => decide (a.toNat % 16 < b.toNat % 16 + bin.toNat)) := by
  cases rule with
  | complementAdd => exact sub8_ac_complementAdd a b bin
  | borrow => exact sub8_ac_borrow a b bin

/-- Settles O49: the effect writes `sub8` of A and the operand with borrow-in 0, with its flags. -/
theorem subSubtractsFromTheAccumulator : Obligations.SubSubtractsFromTheAccumulator := by
  intro x
  refine ⟨encode_sub x, .of_finish (exec_sub_commits x) (fun _ => rfl), fun s hfits => ?_⟩
  obtain ⟨t, hexec, hcompleted, ha, hzsp, hcy, hac, hframe⟩ := completed_of_finish_setResult (exec_sub_commits x s) hfits
  rw [← ha] at hzsp
  exact ⟨t, hexec, hcompleted, by rw [ha, sub8_r]; rfl, hzsp, by rw [hcy, sub8_cy]; rfl,
    hac.trans (sub8_ac _ _ _ false), hframe⟩

/-- Settles O50: the effect writes `sub8` of A and the operand with the old CY as borrow-in, with its flags. -/
theorem sbbSubtractsWithBorrow : Obligations.SbbSubtractsWithBorrow := by
  intro x
  refine ⟨encode_sbb x, .of_finish (exec_sbb_commits x) (fun _ => rfl), fun s hfits => ?_⟩
  obtain ⟨t, hexec, hcompleted, ha, hzsp, hcy, hac, hframe⟩ := completed_of_finish_setResult (exec_sbb_commits x s) hfits
  rw [← ha] at hzsp
  exact ⟨t, hexec, hcompleted, by rw [ha, sub8_r], hzsp, by rw [hcy, sub8_cy], hac.trans (sub8_ac _ _ _ _), hframe⟩

end Sys2Proof.Machine
end

section
/-! PROOFS. DAA (45_arithmetic.md R239; 90_conflicts.md C6). -/

namespace Sys2Proof.Machine

/-- Whether DAA makes the low correction: the low nibble exceeds 9, or AC. -/
def daaLow (a : Byte) (ac : Bool) : Bool := decide (a.toNat % 16 > 9) || ac

/-- Whether DAA makes the high correction: CY, or the high nibble exceeds 9, alone or with the carry of the low one. -/
def daaHigh (a : Byte) (cy : Bool) : Bool :=
  cy || decide (a.toNat / 16 > 9) || (decide (a.toNat / 16 ≥ 9) && decide (a.toNat % 16 > 9))

/-- The two corrections have no bit in common, so the joined correction is their sum. -/
theorem daa8_r (a : Byte) (ac cy : Bool) :
    (daa8 a ac cy).r.toNat =
      (a.toNat + (if daaLow a ac then 0x06 else 0) + (if daaHigh a cy then 0x60 else 0)) % 256 := by
  have joined : ∀ lo hi : Bool, ((if lo then 0x06 else 0) ||| (if hi then 0x60 else 0) : Nat) =
      (if lo then 0x06 else 0) + (if hi then 0x60 else 0) := by decide
  rw [Nat.add_assoc, ← joined]
  exact BitVec.toNat_ofNat _ 8

theorem daa8_cy (a : Byte) (ac cy : Bool) : (daa8 a ac cy).cy = (cy || daaHigh a cy) := rfl

/-- The low correction carries out of the low nibble exactly when that nibble exceeds 9, whatever AC was. -/
theorem daa8_ac (a : Byte) (ac cy : Bool) : (daa8 a ac cy).ac = decide (a.toNat % 16 > 9) := by
  have nibble : ∀ lo hi : Bool, (((if lo then 0x06 else 0) ||| (if hi then 0x60 else 0) : Nat)) % 16 =
      if lo then 0x06 else 0 := by decide
  have carry : (daa8 a ac cy).ac = decide (a.toNat % 16 + (if daaLow a ac then 0x06 else 0) > 15) := by
    rw [← nibble (daaLow a ac) (daaHigh a cy)]
    rfl
  rw [carry, decide_eq_decide]
  by_cases h : a.toNat % 16 > 9
  · have low : daaLow a ac = true := by simp [daaLow, h]
    rw [if_pos low]
    omega
  · split <;> omega

/-- Settles O52: the effect writes `daa8` of A, AC and CY, with its flags. -/
theorem daaAdjustsTheAccumulator : Obligations.DaaAdjustsTheAccumulator := by
  refine ⟨rfl, .of_finish exec_daa_commits (fun _ => rfl), fun s hfits => ?_⟩
  obtain ⟨t, hexec, hcompleted, ha, hzsp, hcy, hac, hframe⟩ := completed_of_finish_setResult (exec_daa_commits s) hfits
  rw [← ha] at hzsp
  exact ⟨t, hexec, hcompleted, daaLow s.a s.flags.ac, daaHigh s.a s.flags.cy, rfl, rfl, by rw [ha, daa8_r], hzsp,
    by rw [hac, daa8_ac], by rw [hcy, daa8_cy], hframe⟩

end Sys2Proof.Machine
end

section
/-! PROOFS. The rotates, bit by bit (46_rotate.md R260 to R263). -/

namespace Sys2Proof.Machine

theorem getLsbD_shiftLeftIn (v : Byte) (low : Bool) {k : Nat} (hk : k < 8) :
    (shiftLeftIn v low).getLsbD k = if k = 0 then low else v.getLsbD (k - 1) := by
  rw [shiftLeftIn, BitVec.getLsbD_or, BitVec.getLsbD_shiftLeft, BitVec.getLsbD_ofNat, Nat.testBit_bool_toNat]
  by_cases h : k = 0 <;> simp [h, hk]

theorem getLsbD_shiftRightIn (v : Byte) (high : Bool) {k : Nat} (hk : k < 8) :
    (shiftRightIn v high).getLsbD k = if k = 7 then high else v.getLsbD (k + 1) := by
  rw [shiftRightIn, BitVec.getLsbD_or, BitVec.getLsbD_ushiftRight, BitVec.getLsbD_shiftLeft, BitVec.getLsbD_ofNat,
    Nat.testBit_bool_toNat]
  by_cases h : k = 7
  · simp [h]
  · simp [h, (by omega : k < 7), Nat.add_comm]

/-- Shifting the top bit back in at the bottom is a rotation. -/
theorem getLsbD_rotateLeft (v : Byte) {k : Nat} (hk : k < 8) :
    (shiftLeftIn v (v.getLsbD 7)).getLsbD k = v.getLsbD ((k + 7) % 8) := by
  rw [getLsbD_shiftLeftIn v _ hk]
  split
  · rw [(by omega : (k + 7) % 8 = 7)]
  · rw [(by omega : (k + 7) % 8 = k - 1)]

/-- Shifting the bottom bit back in at the top is a rotation. -/
theorem getLsbD_rotateRight (v : Byte) {k : Nat} (hk : k < 8) :
    (shiftRightIn v (v.getLsbD 0)).getLsbD k = v.getLsbD ((k + 1) % 8) := by
  rw [getLsbD_shiftRightIn v _ hk]
  split
  · rw [(by omega : (k + 1) % 8 = 0)]
  · rw [(by omega : (k + 1) % 8 = k + 1)]

/-- An instruction that commits a byte to A and a CY, and nothing else. -/
theorem completed_of_finish_setRotated {n : Nat} {i : Instr} {s : State} {r : Byte} {c : Bool}
    (hexec : exec i s = finish n s (.ok (setRotated r c s))) (hfits : Fits n s) :
    ∃ t, exec i s = .next t ∧ Completed n s t ∧ t.a = r ∧ t.flags.cy = c ∧ UnchangedExcept [.a] false [.cy] [] s t := by
  obtain ⟨next, hnext, hcompleted⟩ := completed_of_finish hexec rfl rfl hfits
  exact ⟨_, hnext, hcompleted, rfl, rfl, (UnchangedExcept.setRotated r c s).setPc next⟩

/-- Settles O53: the bit shifted in is the bit shifted out. -/
theorem circularRotatesMoveEveryBit : Obligations.CircularRotatesMoveEveryBit := by
  refine ⟨⟨rfl, .of_finish exec_rlc_commits (fun _ => rfl), fun s hfits => ?_⟩,
    rfl, .of_finish exec_rrc_commits (fun _ => rfl), fun s hfits => ?_⟩
  · obtain ⟨t, hexec, hcompleted, ha, hcy, hframe⟩ := completed_of_finish_setRotated (exec_rlc_commits s) hfits
    exact ⟨t, hexec, hcompleted, fun k hk => ha ▸ getLsbD_rotateLeft s.a hk, hcy, hframe⟩
  · obtain ⟨t, hexec, hcompleted, ha, hcy, hframe⟩ := completed_of_finish_setRotated (exec_rrc_commits s) hfits
    exact ⟨t, hexec, hcompleted, fun k hk => ha ▸ getLsbD_rotateRight s.a hk, hcy, hframe⟩

/-- Settles O54: the bit shifted in is the old CY. -/
theorem carryRotatesMoveEveryBit : Obligations.CarryRotatesMoveEveryBit := by
  refine ⟨⟨rfl, .of_finish exec_ral_commits (fun _ => rfl), fun s hfits => ?_⟩,
    rfl, .of_finish exec_rar_commits (fun _ => rfl), fun s hfits => ?_⟩
  · obtain ⟨t, hexec, hcompleted, ha, hcy, hframe⟩ := completed_of_finish_setRotated (exec_ral_commits s) hfits
    exact ⟨t, hexec, hcompleted, fun k hk => ha ▸ getLsbD_shiftLeftIn s.a _ hk, hcy, hframe⟩
  · obtain ⟨t, hexec, hcompleted, ha, hcy, hframe⟩ := completed_of_finish_setRotated (exec_rar_commits s) hfits
    exact ⟨t, hexec, hcompleted, fun k hk => ha ▸ getLsbD_shiftRightIn s.a _ hk, hcy, hframe⟩

end Sys2Proof.Machine
end

section
/-! PROOFS. MVI, LXI, and the loads and stores at a 16-bit address (42_data_move.md R173, R174; 43_load_store.md R190, R193 to
R196). -/

namespace Sys2Proof.Machine

/-! ### The encodings and the operand fetch fault -/

theorem encode_mvi_reg (rd : Reg) (d8 : Byte) : encode (.mvi (.reg rd) d8) = [0b00000110#8 ||| rd.code <<< 3, d8] := by
  cases rd <;> rfl

theorem encode_lxi (p : Pair) (d16 : Word) :
    encode (.lxi p d16) = [0b00000001#8 ||| p.code <<< 4, loByte d16, hiByte d16] := by cases p <;> rfl

/-- An instruction that commits a byte to the cell at `addr`, and nothing else. -/
theorem completed_of_finish_store {n : Nat} {i : Instr} {s : State} {addr : Nat} {v : Byte}
    (hexec : exec i s = finish n s (.ok (setMem (Memory.set s.mem addr v) s))) (haddr : addr ≤ Config.maxAddress)
    (hfits : Fits n s) :
    ∃ t, exec i s = .next t ∧ Completed n s t ∧ memRead addr t = .ok v ∧ UnchangedExcept [] false [] [addr] s t := by
  obtain ⟨next, hnext, hcompleted⟩ := completed_of_finish hexec rfl rfl hfits
  exact ⟨_, hnext, hcompleted, memRead_set_self haddr s.mem v s,
    (UnchangedExcept.store (List.mem_singleton_self _) v).setPc next⟩

/-- An instruction that commits a byte to a register, and nothing else. -/
theorem completed_of_finish_setReg {n : Nat} {i : Instr} {s : State} {rd : Reg} {v : Byte}
    (hexec : exec i s = finish n s (.ok (setReg rd v s))) (hfits : Fits n s) :
    ∃ t, exec i s = .next t ∧ Completed n s t ∧ getReg rd t = v ∧ UnchangedExcept [rd] false [] [] s t := by
  obtain ⟨next, hnext, hcompleted⟩ := completed_of_finish hexec (setReg_pc rd v s) (setReg_run rd v s) hfits
  exact ⟨_, hnext, hcompleted, by simp, (UnchangedExcept.setReg (List.mem_singleton_self rd) v).setPc next⟩

/-- Settles O32: the effect writes the register alone, with the immediate byte. -/
theorem mviLoadsTheImmediate : Obligations.MviLoadsTheImmediate := fun rd d8 =>
  ⟨encode_mvi_reg rd d8, .of_operandLength (by cases rd <;> rfl),
    .of_finish (exec_mviReg_commits rd d8) (fun _ => setReg_pc _ _ _),
    fun s => completed_of_finish_setReg (exec_mviReg_commits rd d8 s)⟩

/-- Settles O33: the effect writes the cell at HL alone, so a fetch from that cell reads the immediate byte. -/
theorem mviMemoryStoresTheImmediate : Obligations.MviMemoryStoresTheImmediate := by
  intro d8
  refine ⟨rfl, .of_operandLength rfl, .of_finish (exec_mviMem_commits d8) (fun _ => rfl), fun s hfits => ?_⟩
  obtain ⟨t, hexec, hcompleted, hstored, hframe⟩ :=
    completed_of_finish_store (exec_mviMem_commits d8 s) (word_le_maxAddress _) hfits
  exact ⟨t, hexec, hcompleted, hstored, hframe, codeBytes_head_of_memRead hstored⟩

/-- Settles O34: the effect writes the pair alone, with the immediate word. -/
theorem lxiLoadsThePair : Obligations.LxiLoadsThePair := fun p d16 =>
  ⟨encode_lxi p d16, .of_operandLength (by cases p <;> rfl),
    .of_finish (exec_lxi_commits p d16) (fun _ => setPair_pc _ _ _),
    fun s => completed_of_finish_setPair (exec_lxi_commits p d16 s)⟩

/-- Settles O39: the effect writes the cell at the address alone, so a fetch from that cell reads A. -/
theorem staStoresTheAccumulator : Obligations.StaStoresTheAccumulator := by
  intro a16
  refine ⟨rfl, .of_operandLength rfl, .of_finish (exec_sta_commits a16) (fun _ => rfl), fun s hfits => ?_⟩
  obtain ⟨t, hexec, hcompleted, hstored, hframe⟩ :=
    completed_of_finish_store (exec_sta_commits a16 s) (word_le_maxAddress _) hfits
  exact ⟨t, hexec, hcompleted, hstored, hframe, fun hpc => codeBytes_head_of_memRead hstored (congrArg _ hpc)⟩

/-- Settles O40: the effect writes A alone, with the byte the port reads at the address in the starting state. -/
theorem ldaLoadsTheAccumulator : Obligations.LdaLoadsTheAccumulator := by
  intro a16
  refine ⟨rfl, .of_operandLength rfl, .of_finish (exec_lda_commits a16) (fun _ => rfl), fun s hfits => ?_⟩
  obtain ⟨t, hexec, hcompleted, ha, hframe⟩ := completed_of_finish_setReg (exec_lda_commits a16 s) hfits
  exact ⟨t, hexec, hcompleted, (memRead_word a16 s).trans (congrArg _ ha.symm), hframe⟩

/-! ### SHLD and LHLD, which reach two cells -/

/-- The overflow clause asks for a halt at 0x10000, which the data access fault raises too. -/
theorem pcOverflowHalts_shld (a16 : Word) : PcOverflowHalts 2 (.shld a16) := by
  rcases word_lt_ffff_or_eq a16 with h | rfl
  · exact .of_finish (exec_shld_commits h) (fun _ => rfl)
  · exact fun s _ => ⟨_, exec_shld_at_top rfl s, rfl, rfl⟩

theorem pcOverflowHalts_lhld (a16 : Word) : PcOverflowHalts 2 (.lhld a16) := by
  rcases word_lt_ffff_or_eq a16 with h | rfl
  · exact .of_finish (exec_lhld_commits h) (fun _ => rfl)
  · exact fun s _ => ⟨_, exec_lhld_at_top rfl s, rfl, rfl⟩

/-- After two neighbouring cells are stored each reads its own byte. -/
theorem memRead_store_store {addr : Nat} (h : addr < Config.maxAddress) (m : Memory) (lo hi : Byte) (s : State) :
    memRead addr (setMem (Memory.set (Memory.set m addr lo) (addr + 1) hi) s) = .ok lo ∧
      memRead (addr + 1) (setMem (Memory.set (Memory.set m addr lo) (addr + 1) hi) s) = .ok hi :=
  ⟨by rw [memRead_set_of_ne (Nat.succ_ne_self addr).symm, memRead_set_self h.le], memRead_set_self h _ hi s⟩

/-- Settles O37: below 0xFFFF the effect writes the two cells alone; at 0xFFFF the second store faults. -/
theorem shldStoresHlLowByteFirst : Obligations.ShldStoresHlLowByteFirst := by
  intro a16
  refine ⟨rfl, .of_operandLength rfl, pcOverflowHalts_shld a16, fun s hfits hlt => ?_, fun s => (exec_shld_at_top · s)⟩
  obtain ⟨next, hexec, hcompleted⟩ := completed_of_finish (exec_shld_commits hlt s) rfl rfl hfits
  obtain ⟨hlo, hhi⟩ := memRead_store_store hlt s.mem s.l s.h s
  exact ⟨_, hexec, hcompleted, hlo, hhi, (UnchangedExcept.store_store a16.toNat s.l s.h s).setPc next⟩

/-- Settles O38: below 0xFFFF the effect writes L and H alone; at 0xFFFF the second read faults. -/
theorem lhldLoadsHlLowByteFirst : Obligations.LhldLoadsHlLowByteFirst := by
  intro a16
  refine ⟨rfl, .of_operandLength rfl, pcOverflowHalts_lhld a16, fun s hfits hlt => ?_, fun s => (exec_lhld_at_top · s)⟩
  obtain ⟨next, hexec, hcompleted⟩ := completed_of_finish (exec_lhld_commits hlt s) rfl rfl hfits
  exact ⟨_, hexec, hcompleted, memRead_of_le hlt.le s, memRead_of_le hlt s,
    (UnchangedExcept.setReg_h_setReg_l _ _ s).setPc next⟩

end Sys2Proof.Machine
end
